-- ==== Sys2Proof/Word.lean ====
section
/-! DEFINITION. The data formats of spec/30_encoding.md as types (R60 to R64, R70, R71). Every value is an
unsigned integer of a stated width, bit 0 the least significant (spec/00_scope.md R12), so each is a bit vector of
exactly that width and no out-of-range value can be written down (spec/60_exceptions.md R164). -/

namespace Sys2Proof

/-- Codeword23 (R60): 12 data bits over 11 check bits. Any value, a valid codeword or not. -/
abbrev Codeword23 := BitVec 23

/-- Codeword24 (R61): a Codeword23 over one parity bit, which is bit 0. -/
abbrev Codeword24 := BitVec 24

/-- Syndrome (R62): the remainder of a Codeword23 by the generator; also the table's address (R40). -/
abbrev Syndrome := BitVec 11

/-- CorrectionEntry (R63): the mask of the bits of a Codeword23 to flip, numbered as the Codeword23. -/
abbrev CorrectionEntry := BitVec 23

/-- The 12 data bits of a codeword (R60), the `data` of a DecodedResult (R64). -/
abbrev DataWord := BitVec 12

/-- DecodedResult (R64): the data and the correction mask that was applied. -/
structure DecodedResult where
  data : DataWord
  mask : CorrectionEntry
  deriving DecidableEq, Repr

/-- The request word `REQ` of the shared interface (R70): `op` in bits 25:24, `arg` in bits 23:0. -/
abbrev Req := BitVec 26

/-- The response word `RSP` of the shared interface (R71), packed. -/
abbrev Rsp := BitVec 47

end Sys2Proof
end

