-- ==== Sys2Proof/Config.lean ====
section
/-! DEFINITION. The parameters of spec/00_scope.md: R9's, all fixed, under the spec's names, and R11's two open
ones, which are opaque constants: no definition of the model and no statement reads them (DESIGN CHOICE, log entry
11, safe). -/

namespace Sys2Proof.Config

/-- Codeword length in bits (R9). -/
abbrev N : Nat := 23

/-- Data bits, the high-order bits 22..11 of a codeword (R9). -/
abbrev K : Nat := 12

/-- Check bits, the low-order bits 10..0; the syndrome width and the shift that extracts the data (R9). -/
abbrev C : Nat := 11

/-- The generator polynomial `G`, degree 11 (R9, R10). -/
def G : BitVec 12 := 0xC75

/-- The largest weight of a correction mask, the guaranteed correction radius (R9). -/
abbrev T : Nat := 3

/-- The minimum distance of the code (R9). -/
abbrev DMIN : Nat := 7

/-- Number of syndromes and of table entries (R9). -/
abbrev NSYN : Nat := 2048

/-- Width of the 24-bit input word (R9). -/
abbrev W24 : Nat := 24

/-- The loop test mask of the syndrome algorithm as the source prints it, 32 bits wide (R9). -/
def HIGHMASK : BitVec 32 := 0xFFFFF800

/-- Upper bound on the outer loop's iterations (R9, R97). -/
abbrev MAXITER : Nat := 12

/-- `LATENCY` (R11, R190): the time from the k-th request of a run to its response. Finite, otherwise open.
Named because R11 names it; nothing reads it. -/
opaque LATENCY : Nat → Req → Nat

/-- `TRANSPORT` (R11, R70): which signal-level protocol carries requests and responses. Named because R11 names
it; nothing reads it. -/
opaque TRANSPORT : Nat

end Sys2Proof.Config
end

