-- ==== Sys2Proof/Machine/Operands.lean ====
section
/-! DEFINITION. The fields of the data formats (spec/30_encoding.md R60, R61), the extractions inside the decoders
(R73; spec/43_decode.md R142), and what a host with wider integers does before it uses a module port
(spec/60_exceptions.md R164). There are no immediates, register numbers or addressing modes (R73). -/

namespace Sys2Proof.Machine

/-- The data field of a codeword, bits 22:11 (R60). -/
def dataField (cw : Codeword23) : DataWord := cw.extractLsb' 11 12

/-- The check field of a codeword, bits 10:0 (R60). -/
def checkField (cw : Codeword23) : BitVec 11 := cw.extractLsb' 0 11

/-- The parity bit of a 24-bit word, bit 0 (R61). No operation reads it (spec/43_decode.md R149). -/
def parityBit (word : Codeword24) : Bool := word.getLsbD 0

/-- `codeword23 = word >> 1`: the 24-bit word without its parity bit (R61, R73; spec/43_decode.md R141). -/
def dropParity (word : Codeword24) : Codeword23 := (word >>> 1).setWidth 23

/-- The 24-bit word of a codeword and a parity bit (R61). -/
def withParity (cw : Codeword23) (parity : Bool) : Codeword24 := cw ++ BitVec.ofBool parity

/-- `data = corrected >> 11`, truncated to 12 bits (R73; spec/43_decode.md R140). -/
def dataOfCorrected (corrected : Codeword23) : DataWord := (corrected >>> Config.C).setWidth 12

/-- What a host does with an integer before it presents it on a port of `w` bits: a negative or too wide value is
refused, never truncated (spec/60_exceptions.md R164; spec/93_implementation_defined.md U1). -/
def presentOnPort (w : Nat) (n : Int) : Option (BitVec w) :=
  if 0 ≤ n ∧ n < 2 ^ w then some (BitVec.ofNat w n.toNat) else none

end Sys2Proof.Machine
end

