-- ==== Sys2Proof/Syntax.lean ====
section
/-! DEFINITION. The four operations of spec/30_encoding.md R72 (the rows of spec/opcode_table.json), each with its
operand at exactly the width the operation takes (R73, R164). There are no other operations (spec/43_decode.md
R156), no pseudo-instructions (R76), no prefixes and no variable-length forms (R75). -/

namespace Sys2Proof

/-- One operation with its operand. -/
inductive Instr where
  /-- `SYN cw`: the syndrome of a received word (spec/40_syndrome.md R100). -/
  | syn (cw : Codeword23)
  /-- `ROM addr`: one entry of the correction table (spec/41_correction_rom.md R120). -/
  | rom (addr : Syndrome)
  /-- `DEC23 cw`: decode a 23-bit received word (spec/43_decode.md R140). -/
  | dec23 (cw : Codeword23)
  /-- `DEC24 word`: decode a 24-bit received word, its bit 0 ignored (spec/43_decode.md R141). -/
  | dec24 (word : Codeword24)
  deriving DecidableEq, Repr

/-- The operation's name in spec/opcode_table.json (R72, R76). -/
def Instr.mnemonic : Instr → String
  | .syn _ => "SYN"
  | .rom _ => "ROM"
  | .dec23 _ => "DEC23"
  | .dec24 _ => "DEC24"

end Sys2Proof
end

