-- ==== Sys2Proof/WellFormed.lean ====
section
/-! DEFINITION. Which request words are legal, in the match-and-mask form of spec/30_encoding.md R72
(spec/opcode_table.json). An `Instr` needs no check of its own: its operands have exactly the operation's widths,
so every term of it is well formed (spec/60_exceptions.md R164). What can be ill formed is the 26-bit request word,
by a 1 in a bit that must be 0 (R74). Decode.lean reads requests by their fields (R161); that the two readings
agree is stated in Certificates/Slice0/Obligations.lean. -/

namespace Sys2Proof

/-- One row of R72's match-and-mask list. -/
structure OpcodeRow where
  mnemonic : String
  /-- The values the row's fixed bits must have. -/
  pattern : Req
  /-- Which bits of the request are fixed by the row. -/
  mask : Req
  deriving DecidableEq, Repr

/-- A request selects the row where `REQ AND mask == match` (R72). -/
def OpcodeRow.selects (row : OpcodeRow) (req : Req) : Bool :=
  req &&& row.mask == row.pattern

/-- The four rows of R72. -/
def opcodeRows : List OpcodeRow :=
  [{ mnemonic := "SYN",   pattern := 0x0000000, mask := 0x3800000 },
   { mnemonic := "ROM",   pattern := 0x1000000, mask := 0x3FFF800 },
   { mnemonic := "DEC23", pattern := 0x2000000, mask := 0x3800000 },
   { mnemonic := "DEC24", pattern := 0x3000000, mask := 0x3000000 }]

/-- A request word is well formed when it selects a row; otherwise it raises `InputRange` (R72, R74). -/
def requestWellFormed (req : Req) : Bool :=
  opcodeRows.any (·.selects req)

end Sys2Proof
end

