-- ==== Sys2Proof/Decode.lean ====
section
/-! DEFINITION. The request decoder of spec/60_exceptions.md R161 and the encoder of spec/30_encoding.md R76. The
decoder is total: each of the 2^26 request words gives one operation or `InputRange` (R75). -/

namespace Sys2Proof

/-- Why a request word is no operation. There is one cause and no cause code (spec/60_exceptions.md R162). -/
inductive DecodeError where
  /-- `InputRange`: a must-be-zero bit of the request is 1 (R74, R161). -/
  | inputRange
  deriving DecidableEq, Repr

/-- `REQ.op`, bits 25:24 (R70). -/
def reqOp (req : Req) : BitVec 2 := req.extractLsb' 24 2

/-- `REQ.arg`, bits 23:0 (R70). -/
def reqArg (req : Req) : BitVec 24 := req.extractLsb' 0 24

/-- The operand `cw = arg[22:0]` of `SYN` and `DEC23` (R73). -/
def argCodeword (arg : BitVec 24) : Codeword23 := arg.extractLsb' 0 23

/-- The operand `addr = arg[10:0]` of `ROM` (R73). -/
def argAddr (arg : BitVec 24) : Syndrome := arg.extractLsb' 0 11

/-- The operand `word = arg[23:0]` of `DEC24` (R73). -/
def argWord (arg : BitVec 24) : Codeword24 := arg

/-- The reserved bit `arg[23]` of `SYN` and `DEC23` is 1 (R72). -/
def codewordReservedSet (arg : BitVec 24) : Bool := arg.getLsbD 23

/-- A reserved bit of `ROM`, `arg[23:11]`, is 1 (R72). -/
def addrReservedSet (arg : BitVec 24) : Bool := arg.extractLsb' 11 13 != 0

/-- The request decoder (R161), with the reserved-bit check before anything else (R74). -/
def decode (req : Req) : Except DecodeError Instr :=
  let arg := reqArg req
  if reqOp req = 0b00 then
    if codewordReservedSet arg then .error .inputRange else .ok (.syn (argCodeword arg))
  else if reqOp req = 0b01 then
    if addrReservedSet arg then .error .inputRange else .ok (.rom (argAddr arg))
  else if reqOp req = 0b10 then
    if codewordReservedSet arg then .error .inputRange else .ok (.dec23 (argCodeword arg))
  else
    .ok (.dec24 (argWord arg))

/-- The request word of an operation (R76): `{op, zext_24(operand)}`. -/
def encode : Instr → Req
  | .syn cw => 0b00#2 ++ cw.setWidth 24
  | .rom addr => 0b01#2 ++ addr.setWidth 24
  | .dec23 cw => 0b10#2 ++ cw.setWidth 24
  | .dec24 word => 0b11#2 ++ word

/-- The operation read from a request whose bits are `w`, numbered as spec/opcode_table.json numbers them. A
request is one parallel word of 26 bits with no byte order (spec/20_memory.md R44), so `nbits` (26 rounded up to
whole bytes) changes nothing, and a number that needs a bit above 25 is no request word and is refused, as
`withFetchWord` refuses it. DESIGN CHOICE (log entries 5 and 13, safe). -/
def decodeTableWord (_nbits w : Nat) : Option Instr :=
  if w < 2 ^ 26 then (decode (BitVec.ofNat 26 w)).toOption else none

end Sys2Proof
end

