-- ==== Sys2Proof/Machine/State.lean ====
section
/-! DEFINITION. The state of the machine. The block itself has no register, program counter, flag, control register
or writable memory (spec/10_state.md R22 to R26, R29); its one piece of state, the correction table, is a constant
(R28, R31, R32; log entry 2), so it is the constant `romRead` of Machine/Table.lean and no field here: no state exists in which
an entry differs. What changes in a run is the shared interface's traffic (spec/30_encoding.md R70, R79): the
requests not yet answered and the responses given so far. -/

namespace Sys2Proof.Machine

/-- A response, field by field (spec/30_encoding.md R71). `Response.pack` gives the 47-bit word. -/
structure Response where
  /-- 1 when the request raised `InputRange`. -/
  err : Bool
  /-- The decoded data of `DEC23` and `DEC24`; otherwise 0. -/
  data : DataWord
  /-- The correction mask of `DEC23` and `DEC24`, the entry of `ROM`; otherwise 0. -/
  mask : CorrectionEntry
  /-- The syndrome of `SYN`; otherwise 0. -/
  syn : Syndrome
  deriving DecidableEq, Repr

/-- A step cannot fault: the spec has no trap, halt or stuck outcome (spec/60_exceptions.md R163, R164, R168;
spec/70_reset_and_hazards.md R189), and its one exception, `InputRange`, is answered with a response and goes on
(R161, R167). So the type has no constructor and nobody raises a fault. DEDUCED (log entry 12, safe). -/
inductive Fault where
  deriving DecidableEq, Repr

/-- Why a step has no meaning. -/
inductive Refusal where
  /-- Raised by an arm of `exec` whose instruction has no meaning yet: safe. No arm raises it. -/
  | notModelled (mnemonic : String)
  deriving DecidableEq, Repr

/-- The traffic of one shared interface (spec/30_encoding.md R70, R79, R80). DESIGN CHOICE (log entry 1, unsafe): the
spec gives the block no state for it; the two lists are the host's program and its result. -/
structure State where
  /-- The requests sent and not yet answered, the next to be answered first. -/
  pending : List Req
  /-- The responses given so far, the oldest first: the result of the run (R79, R192). -/
  responses : List Response
  deriving DecidableEq, Repr

/-- After reset (spec/70_reset_and_hazards.md R180 to R182): nothing has been asked and nothing answered (DESIGN
CHOICE, log entry 1). The table holds its contents, as it does at every other time (spec/10_state.md R31). -/
def State.reset : State := { pending := [], responses := [] }

end Sys2Proof.Machine
end

