-- ==== Sys2Proof/Machine/Ops.lean ====
section
/-! DEFINITION. The shared operations: Hamming weight, the responses and their 47-bit word, taking and answering a
request, and taking the one exception, `InputRange`. There is no return from an exception (spec/60_exceptions.md
R169), no register access and no store (spec/10_state.md R22; spec/20_memory.md R43). -/

namespace Sys2Proof.Machine

/-- `popcount(v)`, the Hamming weight (spec/00_scope.md R14). -/
def popcount {w : Nat} (v : BitVec w) : Nat :=
  (List.range w).countP fun i => v.getLsbD i

/-! Responses (spec/30_encoding.md R71, R78): a field the operation does not produce is 0. -/

/-- The response of `SYN` (R78). -/
def Response.ofSyndrome (s : Syndrome) : Response :=
  { err := false, data := 0, mask := 0, syn := s }

/-- The response of `ROM` (R78). -/
def Response.ofEntry (e : CorrectionEntry) : Response :=
  { err := false, data := 0, mask := e, syn := 0 }

/-- The response of `DEC23` and `DEC24`, which do not report their syndrome (R71, R78). -/
def Response.ofDecoded (d : DecodedResult) : Response :=
  { err := false, data := d.data, mask := d.mask, syn := 0 }

/-- The response of a request that raises `InputRange` (R78; spec/60_exceptions.md R161). -/
def Response.inputRange : Response :=
  { err := true, data := 0, mask := 0, syn := 0 }

/-- The response as the 47-bit word `RSP`: `err` in bit 46, `data` in 45:34, `mask` in 33:11, `syn` in 10:0 (R71,
R77). -/
def Response.pack (r : Response) : Rsp :=
  BitVec.ofBool r.err ++ r.data ++ r.mask ++ r.syn

/-- The response whose packed word is the given one (R71). -/
def Response.unpack (w : Rsp) : Response :=
  { err := w.getLsbD 46
    data := w.extractLsb' 34 12
    mask := w.extractLsb' 11 23
    syn := w.extractLsb' 0 11 }

/-- A DecodedResult as one 35-bit word: `data` in bits 34:23, `mask` in 22:0 (spec/30_encoding.md R64). -/
def packDecoded (d : DecodedResult) : BitVec 35 := d.data ++ d.mask

/-! The shared interface: one request in, one response out, in order (R70, R80). -/

/-- Take the next request, and the state without it; none when no request is waiting. -/
def State.takeRequest (s : State) : Option (Req × State) :=
  match s.pending with
  | [] => none
  | req :: rest => some (req, { s with pending := rest })

/-- Put a request where the next one is taken from, in place of what stands there (log entry 4). -/
def State.placeRequest (s : State) (req : Req) : State :=
  { s with pending := req :: s.pending.tail }

/-- Put the request whose 26 bits are the number `w` where the next one is taken from. The spec has only 26-bit
requests (spec/30_encoding.md R70) and does not say what becomes of a wider number that is given as one; here a number
of 2^26 or more is refused, never cut to 26 bits: nothing is placed and the state stays as it is, as a host refuses a
value that does not fit a port (spec/60_exceptions.md R164). DESIGN CHOICE (log entry 13, safe). -/
def State.placeNumber (s : State) (w : Nat) : State :=
  if w < 2 ^ 26 then s.placeRequest (BitVec.ofNat 26 w) else s

/-- Give a response; responses come back in request order (R80). -/
def State.answer (s : State) (r : Response) : State :=
  { s with responses := s.responses ++ [r] }

/-- `raise InputRange` (spec/60_exceptions.md R161): the whole effect is the error response. No state is saved, no
mode changes, control goes nowhere, nothing is recorded and `err` is not sticky (R162, R167, R168). -/
def State.raiseInputRange (s : State) : State :=
  s.answer Response.inputRange

/-- Take the exception the request decoder reports. -/
def State.takeException (s : State) : DecodeError → State
  | .inputRange => s.raiseInputRange

/-- A step with no request waiting: the block has no halt and is ready for the next request
(spec/70_reset_and_hazards.md R192), so nothing changes. DEDUCED (log entry 3, safe). -/
def State.idle (s : State) : State := s

end Sys2Proof.Machine
end

