-- ==== Sys2Proof/Machine/Syndrome.lean ====
section
/-! DEFINITION. The syndrome calculator and `SYN` (spec/40_syndrome.md). `syndrome` is the source's own algorithm
(R91), the model's definition; the forms R92 and R94 call equivalent follow it, and that they are equivalent is
stated in Certificates/Slice0/Obligations.lean. The loop's `value` and probe are transient and no state (R21 of
spec/10_state.md). -/

namespace Sys2Proof.Machine

/-! ## The reference algorithm (R91) -/

/-- `HIGHMASK` on a 23-bit value: bits 22..11 (R91; spec/90_conflicts.md C5). -/
def highMask : Codeword23 := Config.HIGHMASK.setWidth 23

/-- The XOR term `G << (p - 11)` of a step at bit p, 23 bits wide (R91). -/
def generatorAt (p : Nat) : Codeword23 := Config.G.setWidth 23 <<< (p - Config.C)

/-- The inner loop: move the probe down to the highest set bit at or below it (R91). -/
def alignProbe (value : Codeword23) : Nat → Nat
  | 0 => 0
  | p + 1 => if value.getLsbD (p + 1) then p + 1 else alignProbe value p

/-- The outer loop, run for at most `fuel` iterations from a value and a probe position (R91). -/
def reduce : (fuel : Nat) → (value : Codeword23) → (probe : Nat) → Codeword23
  | 0, value, _ => value
  | fuel + 1, value, probe =>
    if value &&& highMask = 0 then value
    else
      let p := alignProbe value probe
      reduce fuel (value ^^^ generatorAt p) p

/-- `syndrome(codeword)` (R90, R91). Twelve iterations always suffice (R97), so the fuel cuts nothing off: DEDUCED
(log entry 8, safe). -/
def syndrome (codeword : Codeword23) : Syndrome :=
  (reduce Config.MAXITER codeword 22).extractLsb' 0 11

/-- The iterations of the outer loop as R91's traces write them: the value before, and the probe position after the
inner loop. Its length is the number of iterations (R97). -/
def reduceTrace : (fuel : Nat) → (value : Codeword23) → (probe : Nat) → List (Codeword23 × Nat)
  | 0, _, _ => []
  | fuel + 1, value, probe =>
    if value &&& highMask = 0 then []
    else
      let p := alignProbe value probe
      (value, p) :: reduceTrace fuel (value ^^^ generatorAt p) p

/-! ## The unrolled form (R92) -/

/-- Step i: clear bit i with the generator when it is set (R92). -/
def unrolledStep (value : Codeword23) (i : Nat) : Codeword23 :=
  if value.getLsbD i then value ^^^ generatorAt i else value

/-- The value after `n` steps, those at bits 22, 21, .. (R92). -/
def unrolledValue (codeword : Codeword23) : Nat → Codeword23
  | 0 => codeword
  | n + 1 => unrolledStep (unrolledValue codeword n) (22 - n)

/-- The syndrome by twelve conditional steps (R92). -/
def syndromeUnrolled (codeword : Codeword23) : Syndrome :=
  (unrolledValue codeword 12).extractLsb' 0 11

/-- Step i performs its XOR: the coefficient of x^(i-11) of the quotient (R92, R93). -/
def quotientBit (codeword : Codeword23) (i : Nat) : Bool :=
  (unrolledValue codeword (22 - i)).getLsbD i

/-! ## The column form (R94) -/

/-- `COL[0] .. COL[22]` (R94). -/
def columns : List Syndrome :=
  [0x001, 0x002, 0x004, 0x008, 0x010, 0x020, 0x040, 0x080,
   0x100, 0x200, 0x400, 0x475, 0x49F, 0x54B, 0x6E3, 0x1B3,
   0x366, 0x6CC, 0x1ED, 0x3DA, 0x7B4, 0x31D, 0x63A]

/-- The syndrome as the XOR of the columns of the set bits (R94). -/
def syndromeByColumns (codeword : Codeword23) : Syndrome :=
  (columns.zipIdx.map fun (col, i) => if codeword.getLsbD i then col else 0).foldl (· ^^^ ·) 0

/-- For each syndrome bit j, the input bits that are XORed (R94, the second table). -/
def syndromeBitInputs : List (List Nat) :=
  [[0, 11, 12, 13, 14, 15, 18, 21],
   [1, 12, 13, 14, 15, 16, 19, 22],
   [2, 11, 12, 16, 17, 18, 20, 21],
   [3, 12, 13, 17, 18, 19, 21, 22],
   [4, 11, 12, 15, 19, 20, 21, 22],
   [5, 11, 14, 15, 16, 18, 20, 22],
   [6, 11, 13, 14, 16, 17, 18, 19],
   [7, 12, 14, 15, 17, 18, 19, 20],
   [8, 13, 15, 16, 18, 19, 20, 21],
   [9, 14, 16, 17, 19, 20, 21, 22],
   [10, 11, 12, 13, 14, 17, 20, 22]]

/-- Syndrome bit j read off the input bits (R94). -/
def syndromeBit (codeword : Codeword23) (j : Nat) : Bool :=
  (syndromeBitInputs.getD j []).foldl (fun acc i => xor acc (codeword.getLsbD i)) false

/-! ## Valid codewords and the encoding helper -/

/-- A valid codeword: its syndrome is 0 (R99). -/
def validCodeword (c : Codeword23) : Bool := syndrome c == 0

/-- `ENC(d) = {d, syndrome(d << 11)}` (spec/43_decode.md R150): a helper for statements and tests, no operation of
the block (spec/00_scope.md R6). -/
def enc (d : DataWord) : Codeword23 := d ++ syndrome (d.setWidth 23 <<< Config.C)

/-! ## The module and the operation -/

/-- The module `golay_syndrome_calc`: input `cw`, output `syn` (spec/30_encoding.md R65). -/
def golaySyndromeCalc (cw : Codeword23) : Syndrome := syndrome cw

/-- `SYN cw` (R100). -/
def execSyn (cw : Codeword23) (s : State) : Host.Outcome State Fault Refusal :=
  .next (s.answer (Response.ofSyndrome (golaySyndromeCalc cw)))

end Sys2Proof.Machine
end

