-- ==== Sys2Proof/Machine/Decoders.lean ====
section
/-! DEFINITION. The two decoders and `DEC23`, `DEC24` (spec/43_decode.md). Four or more errors give a wrong result
and no signal (R153); the model adds none. -/

namespace Sys2Proof.Machine

/-- `decode23(cw)` (R140). -/
def decode23 (cw : Codeword23) : DecodedResult :=
  let s := syndrome cw
  let mask := romRead s
  let corrected := cw ^^^ mask
  { data := dataOfCorrected corrected, mask := mask }

/-- `decode24(word)`: drop the parity bit and delegate (R141). -/
def decode24 (word : Codeword24) : DecodedResult :=
  decode23 (dropParity word)

/-- The module `golay_decoder_23bit`, made of one `golay_syndrome_calc` and one `golay_correction_table_rom`
(spec/30_encoding.md R67, R69). -/
def golayDecoder23bit (cw : Codeword23) : DecodedResult :=
  let mask := golayCorrectionTableRom (golaySyndromeCalc cw)
  { data := dataOfCorrected (cw ^^^ mask), mask := mask }

/-- The module `golay_decoder_24bit`, made of one `golay_decoder_23bit` (spec/30_encoding.md R68, R69). -/
def golayDecoder24bit (word : Codeword24) : DecodedResult :=
  golayDecoder23bit (dropParity word)

/-- The corrected 24-bit word, `word XOR (mask << 1)`, with the parity bit as received (R143): what a user can
compute; the block does not output it. -/
def correctedWord24 (word : Codeword24) : Codeword24 :=
  word ^^^ ((decode24 word).mask.setWidth 24 <<< 1)

/-- `DEC23 cw` (R140). -/
def execDec23 (cw : Codeword23) (s : State) : Host.Outcome State Fault Refusal :=
  .next (s.answer (Response.ofDecoded (golayDecoder23bit cw)))

/-- `DEC24 word` (R141). -/
def execDec24 (word : Codeword24) (s : State) : Host.Outcome State Fault Refusal :=
  .next (s.answer (Response.ofDecoded (golayDecoder24bit word)))

end Sys2Proof.Machine
end

