-- ==== Sys2Proof/Machine/Dispatch.lean ====
section
/-! DEFINITION. One arm per operation of spec/30_encoding.md R72: the shared interface routes the operand to one
module and that module's outputs to the response (R70). -/

namespace Sys2Proof.Machine

def exec (i : Instr) (s : State) : Host.Outcome State Fault Refusal :=
  match i with
  | .syn cw => Sys2Proof.Machine.execSyn cw s
  | .rom addr => Sys2Proof.Machine.execRom addr s
  | .dec23 cw => Sys2Proof.Machine.execDec23 cw s
  | .dec24 word => Sys2Proof.Machine.execDec24 word s

end Sys2Proof.Machine
end

