-- ==== Sys2Proof/Machine/Step.lean ====
section
/-! DEFINITION. One step answers one request (spec/10_state.md R20; spec/30_encoding.md R70): take the next request,
decode it, and run the operation or take `InputRange`. When a response appears is not modelled (log entry 6). A step with no request waiting changes nothing. -/

namespace Sys2Proof.Machine

/-- One step of the shared interface (spec/30_encoding.md R79, R80; spec/60_exceptions.md R161). -/
def step (s : State) : Host.Outcome State Fault Refusal :=
  match s.takeRequest with
  | none => .next s.idle
  | some (req, s') =>
    match decode req with
    | .ok i => exec i s'
    | .error e => .next (s'.takeException e)

/-- The state with the request whose bits are `w` as the one `step` takes next. DESIGN CHOICE (log entry 4, safe). A
number of 2^26 or more is no request word: nothing is placed. DESIGN CHOICE (log entry 13, safe). -/
def State.withFetchWord (s : State) (_nbits w : Nat) : State :=
  s.placeNumber w

end Sys2Proof.Machine
end

