-- ==== Sys2Proof/Machine/Flags.lean ====
section
/-! DEFINITION. The block has no flags, condition codes or predicates (spec/10_state.md R24): no operation sets a
bit that a later one reads. What a user has in their place: the `err` field of each response (`Response.err`; R71 of
spec/30_encoding.md), which belongs to that response alone, and the correction mask as the error indicator
(spec/43_decode.md R147). -/

namespace Sys2Proof.Machine

/-- The number of bits the decoder flipped, which the user computes from the mask (spec/43_decode.md R147). -/
def correctedBits (d : DecodedResult) : Nat := popcount d.mask

/-- The received word was a valid codeword and nothing was changed (spec/43_decode.md R147). -/
def nothingCorrected (d : DecodedResult) : Bool := d.mask == 0

end Sys2Proof.Machine
end

