-- ==== Sys2Proof/Machine/Instances.lean ====
section
/-! DEFINITION. Several instances of the block side by side (spec/10_state.md R30; spec/60_exceptions.md R174): each
has its own traffic, all read the one constant table, there is no instance identifier and no signalling between
them. Which instance steps next is the argument; any interleaving is allowed (spec/70_reset_and_hazards.md R187). DESIGN
CHOICE (log entry 10, safe). -/

namespace Sys2Proof.Machine

/-- One instance's state after it steps; `step` always answers a next state (R189). -/
def stepState (s : State) : State :=
  match step s with
  | .next t => t
  | .fault _ => s
  | .refused _ => s

/-- Let the k-th instance take one step; a k that names no instance changes nothing. -/
def stepInstance (instances : List State) (k : Nat) : List State :=
  instances.modify k stepState

/-- Let instances step one after another in the given order. -/
def interleave (instances : List State) (order : List Nat) : List State :=
  order.foldl stepInstance instances

end Sys2Proof.Machine
end

