-- ==== Sys2Proof/Machine/Notation.lean ====
section
/-! DEFINITION. The textual notation of requests (spec/30_encoding.md R76) and of responses (R77), as lists of
characters. There is no toolchain and there are no pseudo-instructions: the notation is how spec/95_test_vectors.md
writes requests and responses, and no step reads it. -/

namespace Sys2Proof.Machine

/-! ## Hexadecimal literals -/

/-- The digit of value d, in capitals. -/
def hexDigit (d : Nat) : Char :=
  ['0', '1', '2', '3', '4', '5', '6', '7', '8', '9', 'A', 'B', 'C', 'D', 'E', 'F'].getD d '0'

/-- The value of a digit, capital or small. DESIGN CHOICE (log entry 9, safe). -/
def hexValue (c : Char) : Option Nat :=
  let n := c.toNat
  if 48 ≤ n ∧ n ≤ 57 then some (n - 48)
  else if 65 ≤ n ∧ n ≤ 70 then some (n - 55)
  else if 97 ≤ n ∧ n ≤ 102 then some (n - 87)
  else none

/-- `k` hexadecimal digits of n, the most significant first. -/
def hexDigits : (k : Nat) → (n : Nat) → List Char
  | 0, _ => []
  | k + 1, n => hexDigits k (n / 16) ++ [hexDigit (n % 16)]

/-- `0x` and k digits. -/
def hexLiteral (k n : Nat) : List Char := '0' :: 'x' :: hexDigits k n

/-- The number a list of digits stands for, read onto what is already there. -/
def readHexDigits : (acc : Nat) → List Char → Option Nat
  | acc, [] => some acc
  | acc, c :: cs =>
    match hexValue c with
    | some d => readHexDigits (16 * acc + d) cs
    | none => none

/-- The number a hexadecimal literal stands for; at least one digit. -/
def readHexLiteral : List Char → Option Nat
  | '0' :: 'x' :: c :: cs => readHexDigits 0 (c :: cs)
  | _ => none

/-! ## Requests (R76) -/

/-- The operation code of a mnemonic (R72). -/
def opOfMnemonic (name : List Char) : Option (BitVec 2) :=
  if name = ['S', 'Y', 'N'] then some 0b00
  else if name = ['R', 'O', 'M'] then some 0b01
  else if name = ['D', 'E', 'C', '2', '3'] then some 0b10
  else if name = ['D', 'E', 'C', '2', '4'] then some 0b11
  else none

/-- The request of an operation code and a literal: the literal goes into `arg` as given, and one wider than 24
bits is no request (R76). -/
def assemble (op : BitVec 2) (literal : Nat) : Option Req :=
  if literal < 2 ^ 24 then some (op ++ BitVec.ofNat 24 literal) else none

/-- One line of the notation: the mnemonic, a space, the operand (R76). -/
def readRequest (line : List Char) : Option Req :=
  match line.span (· != ' ') with
  | (name, ' ' :: literal) =>
    match opOfMnemonic name, readHexLiteral literal with
    | some op, some n => assemble op n
    | _, _ => none
  | _ => none

/-- An operation as a line of the notation (R76). -/
def writeRequest : Instr → List Char
  | .syn cw => ['S', 'Y', 'N', ' '] ++ hexLiteral 6 cw.toNat
  | .rom addr => ['R', 'O', 'M', ' '] ++ hexLiteral 3 addr.toNat
  | .dec23 cw => ['D', 'E', 'C', '2', '3', ' '] ++ hexLiteral 6 cw.toNat
  | .dec24 word => ['D', 'E', 'C', '2', '4', ' '] ++ hexLiteral 6 word.toNat

/-! ## Responses (R77) -/

/-- A response as `err=e data=0xhhh mask=0xhhhhhh syn=0xhhh` (R77). -/
def writeResponse (r : Response) : List Char :=
  ['e', 'r', 'r', '='] ++ [if r.err then '1' else '0'] ++
  [' ', 'd', 'a', 't', 'a', '='] ++ hexLiteral 3 r.data.toNat ++
  [' ', 'm', 'a', 's', 'k', '='] ++ hexLiteral 6 r.mask.toNat ++
  [' ', 's', 'y', 'n', '='] ++ hexLiteral 3 r.syn.toNat

/-- A response as its 47-bit word in 12 hexadecimal digits (R77). -/
def writeResponseWord (r : Response) : List Char := hexLiteral 12 r.pack.toNat

end Sys2Proof.Machine
end

