-- ==== Sys2Proof/Machine/Respond.lean ====
section
/-! DEFINITION. The response to one request as a function of that request alone, written from the pseudocode of
spec/60_exceptions.md R161, and the result of a program (spec/30_encoding.md R79). The step does not use these: that
the step gives exactly these responses is stated in Certificates/Slice0/Obligations.lean. -/

namespace Sys2Proof.Machine

/-- `respond(REQ)` (R161, R78). -/
def respond (req : Req) : Response :=
  let op := req.extractLsb 25 24
  let arg := req.extractLsb 23 0
  if op = 0b00 then
    if arg.getLsbD 23 then Response.inputRange
    else Response.ofSyndrome (syndrome (arg.extractLsb 22 0))
  else if op = 0b01 then
    if arg.extractLsb 23 11 ≠ 0 then Response.inputRange
    else Response.ofEntry (romRead (arg.extractLsb 10 0))
  else if op = 0b10 then
    if arg.getLsbD 23 then Response.inputRange
    else Response.ofDecoded (decode23 (arg.extractLsb 22 0))
  else Response.ofDecoded (decode24 arg)

/-- The result of a program: the list of the responses to its requests, in order (R79). -/
def programResult (program : List Req) : List Response := program.map respond

end Sys2Proof.Machine
end

