-- ==== Sys2Proof/Safety.lean ====
section
/-! DEFINITION. The terms statements use: what a response can look like, the invariant of the machine, and words as
polynomials over GF(2). -/

namespace Sys2Proof.Machine

/-- What a response can look like (spec/30_encoding.md R71, R78; spec/43_decode.md R145): an error response is zero
elsewhere, a response with a syndrome is zero elsewhere, and a mask has weight at most 3. -/
abbrev Response.Shape (r : Response) : Prop :=
  (r.err = true → r.data = 0 ∧ r.mask = 0 ∧ r.syn = 0) ∧
  (r.syn ≠ 0 → r.data = 0 ∧ r.mask = 0) ∧
  popcount r.mask ≤ Config.T

/-- The invariant of the machine: every response given so far looks like one. -/
abbrev State.Inv (s : State) : Prop := ∀ r ∈ s.responses, r.Shape

/-- A step from s is safe when it answers a next state, neither a fault nor a refusal (spec/70_reset_and_hazards.md
R189). -/
def SafeStep (s : State) : Prop := ∃ t, step s = .next t

/-- A word as a polynomial over GF(2): bit i is the coefficient of x^i (spec/40_syndrome.md R93). -/
noncomputable def wordPoly {w : Nat} (v : BitVec w) : Polynomial (ZMod 2) :=
  ∑ i ∈ Finset.range w, if v.getLsbD i then Polynomial.X ^ i else 0

end Sys2Proof.Machine
end

