-- ==== Sys2Proof/Certificates/Slice0/Obligations.lean ====
section
/-! DEFINITION. The statements about the model, from the numbered rules of spec/. OBLIGATIONS.json lists them. -/

open Sys2Proof Sys2Proof.Machine

/-! ## Requests: decoding and encoding -/

/-- A request decodes to an operation exactly when it is that operation's request word: no bit of an encoding is
dropped, and no two words give the same operation (spec/30_encoding.md R73, R76). -/
def Obligations.DecodeIffEncode : Prop :=
  ∀ (req : Req) (i : Instr), decode req = .ok i ↔ req = encode i

/-- R72, R75: the four operation codes with their operands, and, for every request word, the agreement of the
decoder by fields with the match-and-mask rows: exactly the decoded operation's row is selected, or no row and the
request raises `InputRange`. -/
def Obligations.RowsSelectWhatIsDecoded : Prop :=
  (∀ cw, reqOp (encode (.syn cw)) = 0b00 ∧ reqArg (encode (.syn cw)) = 0#1 ++ cw) ∧
  (∀ addr, reqOp (encode (.rom addr)) = 0b01 ∧ reqArg (encode (.rom addr)) = 0#13 ++ addr) ∧
  (∀ cw, reqOp (encode (.dec23 cw)) = 0b10 ∧ reqArg (encode (.dec23 cw)) = 0#1 ++ cw) ∧
  (∀ word, reqOp (encode (.dec24 word)) = 0b11 ∧ reqArg (encode (.dec24 word)) = word) ∧
  ∀ req,
    match decode req with
    | .ok i => req = encode i ∧ ∀ row ∈ opcodeRows, row.selects req = (row.mnemonic == i.mnemonic)
    | .error e => e = .inputRange ∧ ∀ row ∈ opcodeRows, row.selects req = false

/-- R74: a request with a reserved bit set is answered with `err = 1` and zeros, whatever else it holds; and the
counts of legal requests and of those that raise `InputRange`. -/
def Obligations.ReservedBitsAreRefused : Prop :=
  (∀ (s : State) (req : Req) (rest : List Req), s.pending = req :: rest → requestWellFormed req = false →
    step s = .next { pending := rest
                     responses := s.responses ++ [{ err := true, data := 0, mask := 0, syn := 0 }] }) ∧
  Nat.card { req : Req // ∃ cw, decode req = .ok (.syn cw) } = 2 ^ 23 ∧
  Nat.card { req : Req // ∃ addr, decode req = .ok (.rom addr) } = 2 ^ 11 ∧
  Nat.card { req : Req // ∃ cw, decode req = .ok (.dec23 cw) } = 2 ^ 23 ∧
  Nat.card { req : Req // ∃ word, decode req = .ok (.dec24 word) } = 2 ^ 24 ∧
  Nat.card { req : Req // decode req = .error .inputRange } = 2 ^ 23 + (2 ^ 24 - 2 ^ 11) + 2 ^ 23

/-- Some request words of spec/95_test_vectors.md decode to the operations they stand for, one per operation, and
one per reserved field does not. -/
def Obligations.SampleWordsDecode : Prop :=
  decode 0x0123456 = .ok (.syn 0x123456) ∧
  decode 0x100000F = .ok (.rom 0x00F) ∧
  decode 0x255E11F = .ok (.dec23 0x55E11F) ∧
  decode 0x3ABC23D = .ok (.dec24 0xABC23D) ∧
  decode 0x0800000 = .error .inputRange ∧
  decode 0x1000800 = .error .inputRange ∧
  decode 0x2D5E11E = .error .inputRange

/-- The textual form (R76): the line written for an operation is read as its request word; a literal too wide for
the operation goes into `arg` as given and so raises `InputRange`; one wider than 24 bits is no request. How many digits are
written, and in which letter case they are read, is the model's choice (log entry 9). -/
def Obligations.WrittenRequestsAreRead : Prop :=
  (∀ i, readRequest (writeRequest i) = some (encode i)) ∧
  (∀ (op : BitVec 2) (n : Nat), assemble op n = if n < 2 ^ 24 then some (op ++ BitVec.ofNat 24 n) else none) ∧
  (∀ n, 2 ^ 23 ≤ n → n < 2 ^ 24 → ∃ req, assemble 0b00 n = some req ∧ decode req = .error .inputRange) ∧
  (∀ n, 2 ^ 11 ≤ n → n < 2 ^ 24 → ∃ req, assemble 0b01 n = some req ∧ decode req = .error .inputRange) ∧
  (∀ n, 2 ^ 23 ≤ n → n < 2 ^ 24 → ∃ req, assemble 0b10 n = some req ∧ decode req = .error .inputRange)

/-! ## The step -/

/-- A step runs the decoded operation: when the next request decodes to i, the step is `exec i` on the state without
that request. Every `Instr` is well formed by its type. -/
def Obligations.StepRunsDecodedInstr : Prop :=
  ∀ (s : State) (req : Req) (rest : List Req) (i : Instr),
    s.pending = req :: rest → decode req = .ok i → step s = exec i { s with pending := rest }

/-- The model's choice (log entry 3): with no request waiting a step changes nothing. -/
def Obligations.StepWithoutRequestIdles : Prop :=
  ∀ s : State, s.pending = [] → step s = .next s

/-- R161: the step answers the next request with exactly `respond(REQ)`, the rule's pseudocode, and `InputRange` is
raised exactly for the listed reserved bits, never by `DEC24`. -/
def Obligations.StepAnswersRespond : Prop :=
  (∀ (s : State) (req : Req) (rest : List Req), s.pending = req :: rest →
    step s = .next { pending := rest, responses := s.responses ++ [respond req] }) ∧
  (∀ req, decode req = .error .inputRange ↔
    ((reqOp req = 0b00 ∨ reqOp req = 0b10) ∧ (reqArg req).getLsbD 23 = true) ∨
    (reqOp req = 0b01 ∧ (reqArg req).extractLsb' 11 13 ≠ 0)) ∧
  (∀ req, (respond req).err = true ↔ decode req = .error .inputRange) ∧
  (∀ req, (respond req).err = true → (respond req).pack = 0x400000000000)

/-- With a request waiting (spec/70_reset_and_hazards.md R189; spec/60_exceptions.md R163), no step is held, stalled or
stuck: it answers a next state, takes the request away and gives one response more. With no request waiting, that the
step answers a next state, takes nothing away and gives no response is the model's choice (log entry 3, DEDUCED). -/
def Obligations.EveryStepAnswers : Prop :=
  ∀ s : State, SafeStep s ∧
    ∀ t, step s = .next t → t.pending = s.pending.tail ∧
      t.responses.length = s.responses.length + (if s.pending = [] then 0 else 1)

/-- From every state (spec/30_encoding.md R79, R80): after k steps the first k requests have got the responses
`respond` gives them, in request order, whatever the others are, and nothing else has happened; when all are answered
the state is the list of responses. For k beyond the last waiting request it says that the further steps change
nothing, which is the model's choice (log entry 3, DEDUCED). -/
def Obligations.RunAnswersInOrder : Prop :=
  (∀ (k : Nat) (s : State),
    Sys2Proof.core.run k s =
      .next { pending := s.pending.drop k, responses := s.responses ++ programResult (s.pending.take k) }) ∧
  (∀ (program : List Req) (i : Nat), (programResult program)[i]? = program[i]?.map respond)

/-- R78: the response word per operation. -/
def Obligations.RespondPerOperation : Prop :=
  (∀ cw, (respond (encode (.syn cw))).pack = 0#1 ++ 0#12 ++ 0#23 ++ syndrome cw) ∧
  (∀ addr, (respond (encode (.rom addr))).pack = 0#1 ++ 0#12 ++ romRead addr ++ 0#11) ∧
  (∀ cw, (respond (encode (.dec23 cw))).pack = 0#1 ++ (decode23 cw).data ++ (decode23 cw).mask ++ 0#11) ∧
  (∀ word, (respond (encode (.dec24 word))).pack = 0#1 ++ (decode24 word).data ++ (decode24 word).mask ++ 0#11) ∧
  (∀ req, requestWellFormed req = false → (respond req).pack = 0x400000000000)

/-! ## The operations -/

/-- R100: `SYN` completes in every state, changes nothing but one response more, and its response, exceptions,
corner cases and worked example. -/
def Obligations.SynAnswersSyndrome : Prop :=
  (∀ (cw : Codeword23) (s : State), exec (.syn cw) s =
    .next { s with responses := s.responses ++ [{ err := false, data := 0, mask := 0, syn := syndrome cw }] }) ∧
  (∀ cw, golaySyndromeCalc cw = syndrome cw) ∧
  (∀ cw : Codeword23, decode (0b00#2 ++ (0#1 ++ cw)) = .ok (.syn cw)) ∧
  (∀ cw : Codeword23, decode (0b00#2 ++ (1#1 ++ cw)) = .error .inputRange) ∧
  syndrome 0x000000 = 0x000 ∧
  (∀ cw : Codeword23, cw.toNat < 0x000800 → (syndrome cw).toNat = cw.toNat) ∧
  syndrome 0x000800 = 0x475 ∧ (reduceTrace 12 0x000800 22).length = 1 ∧
  syndrome 0x7FFFFF = 0x000 ∧
  syndrome 0x000C75 = 0x000 ∧
  encode (.syn 0x123456) = 0x0123456 ∧ syndrome 0x123456 = 0x4FA ∧
  (reduceTrace 12 0x123456 22).length = 6 ∧ (respond 0x0123456).pack = 0x0000000004FA

/-- R120: `ROM` completes in every state, changes nothing but one response more, and its response, exceptions,
corner cases and worked example. -/
def Obligations.RomAnswersEntry : Prop :=
  (∀ (addr : Syndrome) (s : State), exec (.rom addr) s =
    .next { s with responses := s.responses ++ [{ err := false, data := 0, mask := romRead addr, syn := 0 }] }) ∧
  (∀ addr, golayCorrectionTableRom addr = romRead addr) ∧
  (∀ addr : Syndrome, decode (0b01#2 ++ (0#13 ++ addr)) = .ok (.rom addr)) ∧
  (∀ (high : BitVec 13) (addr : Syndrome), high ≠ 0 → decode (0b01#2 ++ (high ++ addr)) = .error .inputRange) ∧
  (∀ addr, popcount (romRead addr) = 0 ↔ addr = 0x000) ∧ romRead 0x000 = 0x000000 ∧
  romRead 0x7FF = 0x028080 ∧ romRead 0x400 = 0x000400 ∧ romRead 0x475 = 0x000800 ∧ romRead 0x63A = 0x400000 ∧
  encode (.rom 0x00F) = 0x100000F ∧ romRead 0x00F = 0x024020 ∧ (respond 0x100000F).pack = 0x000012010000

/-- R140: `DEC23` completes in every state, for all 2^23 inputs, changes nothing but one response more, and its
response, exceptions, corner cases and worked example. -/
def Obligations.Dec23AnswersDecoded : Prop :=
  (∀ (cw : Codeword23) (s : State), exec (.dec23 cw) s =
    .next { s with responses := s.responses ++
              [{ err := false, data := (decode23 cw).data, mask := (decode23 cw).mask, syn := 0 }] }) ∧
  (∀ cw, (decode23 cw).mask = romRead (syndrome cw) ∧
    (decode23 cw).data = ((cw ^^^ romRead (syndrome cw)) >>> 11).setWidth 12 ∧
    (decode23 cw).data = (cw ^^^ romRead (syndrome cw)).extractLsb' 11 12) ∧
  (∀ cw, golayDecoder23bit cw = decode23 cw) ∧
  (∀ cw : Codeword23, decode (0b10#2 ++ (0#1 ++ cw)) = .ok (.dec23 cw)) ∧
  (∀ cw : Codeword23, decode (0b10#2 ++ (1#1 ++ cw)) = .error .inputRange) ∧
  decode23 0x000000 = ⟨0x000, 0x000000⟩ ∧ decode23 0x000001 = ⟨0x000, 0x000001⟩ ∧
  decode23 0x7FFFFF = ⟨0xFFF, 0x000000⟩ ∧ decode23 0x400000 = ⟨0x000, 0x400000⟩ ∧
  decode23 0x700000 = ⟨0x000, 0x700000⟩ ∧ decode23 0x780000 = ⟨0xF04, 0x002402⟩ ∧
  encode (.dec23 0x55E11F) = 0x255E11F ∧ syndrome 0x55E11F = 0x001 ∧ romRead 0x001 = 0x000001 ∧
  decode23 0x55E11F = ⟨0xABC, 0x000001⟩ ∧ (respond 0x255E11F).pack = 0x2AF000000800

/-- R141: `DEC24` completes in every state, for all 2^24 inputs, changes nothing but one response more, raises no
exception, and its response, corner cases and worked example. -/
def Obligations.Dec24AnswersDecoded : Prop :=
  (∀ (word : Codeword24) (s : State), exec (.dec24 word) s =
    .next { s with responses := s.responses ++
              [{ err := false, data := (decode24 word).data, mask := (decode24 word).mask, syn := 0 }] }) ∧
  (∀ word, decode24 word = decode23 ((word >>> 1).setWidth 23) ∧
    decode24 word = decode23 (word.extractLsb' 1 23)) ∧
  (∀ word, golayDecoder24bit word = decode24 word) ∧
  (∀ word : Codeword24, decode (0b11#2 ++ word) = .ok (.dec24 word)) ∧
  decode24 0x000000 = ⟨0x000, 0x000000⟩ ∧ decode24 0x000001 = ⟨0x000, 0x000000⟩ ∧
  decode24 0x000002 = ⟨0x000, 0x000001⟩ ∧
  decode24 0xFFFFFF = ⟨0xFFF, 0x000000⟩ ∧ decode24 0xFFFFFE = ⟨0xFFF, 0x000000⟩ ∧
  decode24 0x800000 = ⟨0x000, 0x400000⟩ ∧
  encode (.dec24 0xABC23D) = 0x3ABC23D ∧ syndrome 0x55E11E = 0x000 ∧
  decode24 0xABC23D = ⟨0xABC, 0x000000⟩ ∧ (respond 0x3ABC23D).pack = 0x2AF000000000

/-- The frame of all four operations: when `exec` gives a next state, the requests still waiting are untouched, no
earlier response has changed, and exactly one response, without `err`, stands after them. There is no register, flag
or special register to change (spec/10_state.md R22 to R26), and the table is a constant (R31). -/
def Obligations.ExecFrame : Prop :=
  ∀ (i : Instr) (s t : State), exec i s = .next t →
    t.pending = s.pending ∧
    t.responses.length = s.responses.length + 1 ∧
    (∀ n, n < s.responses.length → t.responses[n]? = s.responses[n]?) ∧
    ∀ r, t.responses[s.responses.length]? = some r → r.err = false

/-- Each module of part 2 of spec/30_encoding.md, built as R69's hierarchy has it, computes its contract's function
(R65 to R68), and the word the 24-bit decoder passes on is its input without bit 0. How the mask is numbered is said
by Dec24AnswersDecoded and Dec24MaskIsShifted. -/
def Obligations.ModulesComputeContracts : Prop :=
  (∀ cw, golaySyndromeCalc cw = syndrome cw) ∧
  (∀ addr, golayCorrectionTableRom addr = romRead addr) ∧
  (∀ cw, golayDecoder23bit cw = decode23 cw) ∧
  (∀ word, golayDecoder24bit word = decode24 word) ∧
  (∀ (word : Codeword24) (i : Nat), i < 23 → (dropParity word).getLsbD i = word.getLsbD (i + 1))

/-! ## The invariant and reset -/

/-- Every step from a state whose responses all have a response's shape gives such a state again. -/
def Obligations.StepKeepsInv : Prop :=
  ∀ s t : State, s.Inv → step s = .next t → t.Inv

/-- Reset (spec/70_reset_and_hazards.md R180, R182): nothing has been answered, the invariant holds, the table holds
the listing's words (a `ROM` request at any address gets the word there), and the first request after reset is
answered by the first step. That the list of requests is empty too is the model's choice (log entry 1). -/
def Obligations.ResetState : Prop :=
  State.reset.pending = [] ∧ State.reset.responses = [] ∧ State.reset.Inv ∧
  (∀ addr : Syndrome, ∃ word, romWords[addr.toNat]? = some word ∧
    step { State.reset with pending := [encode (.rom addr)] } =
      .next { pending := [], responses := [{ err := false, data := 0, mask := word, syn := 0 }] }) ∧
  ∀ req : Req, step { State.reset with pending := [req] } = .next { pending := [], responses := [respond req] }

/-- The shape is exact: a response has it exactly when some request gets that response. -/
def Obligations.ShapeIsExactlyRespond : Prop :=
  ∀ r : Response, r.Shape ↔ ∃ req, respond req = r

/-! ## Formats -/

/-- The response word's layout (spec/30_encoding.md R71, R77): where each field stands, the word as a number, and
that packing loses nothing. -/
def Obligations.ResponseWordLayout : Prop :=
  (∀ r : Response, r.pack.getLsbD 46 = r.err ∧ r.pack.extractLsb' 34 12 = r.data ∧
    r.pack.extractLsb' 11 23 = r.mask ∧ r.pack.extractLsb' 0 11 = r.syn) ∧
  (∀ r : Response, r.pack.toNat =
    (r.err.toNat <<< 46) ||| (r.data.toNat <<< 34) ||| (r.mask.toNat <<< 11) ||| r.syn.toNat) ∧
  (∀ r : Response, Response.unpack r.pack = r) ∧
  (∀ w : Rsp, (Response.unpack w).pack = w)

/-- R60, R61, R64: the fields of the codeword formats and of the packed DecodedResult. -/
def Obligations.FormatFields : Prop :=
  (∀ cw : Codeword23, cw = dataField cw ++ checkField cw ∧ (dataField cw).setWidth 23 = cw >>> 11 ∧
    (checkField cw).setWidth 23 = cw &&& 0x7FF) ∧
  (∀ word : Codeword24, word = withParity (dropParity word) (parityBit word) ∧
    (dropParity word).setWidth 24 = word >>> 1 ∧
    dataField (dropParity word) = word.extractLsb' 12 12 ∧ checkField (dropParity word) = word.extractLsb' 1 11 ∧
    parityBit word = word.getLsbD 0) ∧
  (∀ d : DecodedResult, (packDecoded d).extractLsb' 23 12 = d.data ∧ (packDecoded d).extractLsb' 0 23 = d.mask)

/-- A host's integer reaches a port exactly when it fits, and then unchanged; otherwise it is refused, never
truncated (spec/60_exceptions.md R164). -/
def Obligations.PortRefusesWideIntegers : Prop :=
  (∀ (w : Nat) (n : Int) (v : BitVec w), presentOnPort w n = some v ↔ (v.toNat : Int) = n) ∧
  (∀ (w : Nat) (n : Int), presentOnPort w n = none ↔ n < 0 ∨ 2 ^ w ≤ n)

/-! ## The syndrome (spec/40_syndrome.md) -/

/-- R92: the unrolled form gives the same syndrome, step i clears bit i and leaves the bits above it, and after step
i no bit at or above i is set. -/
def Obligations.UnrolledFormAgrees : Prop :=
  (∀ cw, syndromeUnrolled cw = syndrome cw) ∧
  (∀ (v : Codeword23) (i : Nat), 11 ≤ i → i ≤ 22 →
    (unrolledStep v i).getLsbD i = false ∧ ∀ j, i < j → (unrolledStep v i).getLsbD j = v.getLsbD j) ∧
  (∀ (cw : Codeword23) (n : Nat), n ≤ 12 → ∀ j, 23 - n ≤ j → (unrolledValue cw n).getLsbD j = false)

/-- R93: the syndrome is the polynomial remainder by the generator, unique of degree at most 10, and the quotient's
coefficients are the steps that perform their XOR. -/
def Obligations.SyndromeIsRemainder : Prop :=
  ∀ cw : Codeword23,
    let q : Polynomial (ZMod 2) := ∑ n ∈ Finset.range 12, if quotientBit cw (n + 11) then Polynomial.X ^ n else 0
    wordPoly cw = q * wordPoly Config.G + wordPoly (syndrome cw) ∧
    (wordPoly (syndrome cw)).degree < 11 ∧ q.degree < 12 ∧
    wordPoly (syndrome cw) = wordPoly cw %ₘ wordPoly Config.G ∧
    ∀ q' r' : Polynomial (ZMod 2), r'.degree < 11 → wordPoly cw = q' * wordPoly Config.G + r' →
      r' = wordPoly (syndrome cw)

/-- R94: the column form and the bit form give the same syndrome, and the columns are the syndromes of the single
bits. -/
def Obligations.ColumnFormAgrees : Prop :=
  columns.length = 23 ∧
  (∀ i, i < 23 → columns[i]? = some (syndrome (1#23 <<< i))) ∧
  (∀ cw, syndromeByColumns cw = syndrome cw) ∧
  (∀ (cw : Codeword23) (j : Nat), j < 11 → (syndrome cw).getLsbD j = syndromeBit cw j) ∧
  columns[11]? = some ((Config.G ^^^ 0x800).setWidth 11)

/-- R95: the syndrome is linear over GF(2), and zero at zero. -/
def Obligations.SyndromeIsLinear : Prop :=
  (∀ a b : Codeword23, syndrome (a ^^^ b) = syndrome a ^^^ syndrome b) ∧ syndrome 0 = 0

/-- R96: small words pass through, every 11-bit value is a syndrome, and check bits enter the syndrome unchanged. -/
def Obligations.CheckBitsPassThrough : Prop :=
  (∀ cw : Codeword23, cw.toNat < 2048 → reduceTrace 12 cw 22 = [] ∧ syndrome cw = cw.extractLsb' 0 11) ∧
  (∀ s : Syndrome, syndrome (s.setWidth 23) = s) ∧
  (∀ cw : Codeword23, syndrome cw = syndrome (cw &&& 0x7FF800) ^^^ cw.extractLsb' 0 11)

/-- R97: the loop ends after at most 12 iterations with no bit at or above 11 set, however long it is allowed to
run; the probe strictly decreases; the count is the number of the quotient's 1 coefficients, 0 exactly below 2048,
and 12 for 2048 inputs. -/
def Obligations.LoopIsBounded : Prop :=
  (∀ (fuel : Nat) (cw : Codeword23), (reduceTrace fuel cw 22).length ≤ 12) ∧
  (∀ (fuel : Nat) (cw : Codeword23), 12 ≤ fuel →
    reduce fuel cw 22 &&& highMask = 0 ∧ reduce fuel cw 22 = reduce 12 cw 22 ∧
    reduceTrace fuel cw 22 = reduceTrace 12 cw 22) ∧
  (∀ cw : Codeword23, ((reduceTrace 12 cw 22).map (·.2)).Pairwise (· > ·) ∧
    ∀ p ∈ (reduceTrace 12 cw 22).map (·.2), 11 ≤ p ∧ p ≤ 22) ∧
  (∀ cw : Codeword23,
    (reduceTrace 12 cw 22).length = (List.range 12).countP fun n => quotientBit cw (n + 11)) ∧
  (∀ cw : Codeword23, (reduceTrace 12 cw 22).length = 0 ↔ cw.toNat < 2048) ∧
  Nat.card { cw : Codeword23 // (reduceTrace 12 cw 22).length = 12 } = 2048 ∧
  (reduceTrace 12 0x42C800 22).length = 12 ∧ syndrome 0x42C800 = 0x3D3

/-- R99: the valid codewords are the words of syndrome 0; there are 4096, one for each data value, and the one with
data d is `ENC(d)`. -/
def Obligations.ValidCodewordsAreEncodings : Prop :=
  (∀ c : Codeword23, validCodeword c = true ↔ syndrome c = 0) ∧
  Nat.card { c : Codeword23 // validCodeword c = true } = 4096 ∧
  ∀ (d : DataWord) (c : Codeword23), (validCodeword c = true ∧ dataField c = d) ↔ c = enc d

/-- R102: every set bit at 11 or above is at or below the probe: true at the start, and kept by an iteration, which
stops the probe at the highest set bit, at 11 or above, and leaves only bits below it. -/
def Obligations.ProbeStaysAboveSetBits : Prop :=
  (∀ (cw : Codeword23) (j : Nat), 11 ≤ j → cw.getLsbD j = true → j ≤ 22) ∧
  ∀ (v : Codeword23) (p : Nat), p ≤ 22 → (∀ j, 11 ≤ j → v.getLsbD j = true → j ≤ p) → v &&& highMask ≠ 0 →
    11 ≤ alignProbe v p ∧ alignProbe v p ≤ p ∧ v.getLsbD (alignProbe v p) = true ∧
    (∀ j, alignProbe v p < j → v.getLsbD j = false) ∧
    (∀ j, alignProbe v p ≤ j → (v ^^^ generatorAt (alignProbe v p)).getLsbD j = false)

/-- R101: the shifted generator never overflows: at a position from 11 to 22 its top bit is that position and
nothing of `G` is lost. -/
def Obligations.ShiftedGeneratorFits : Prop :=
  ∀ p, 11 ≤ p → p ≤ 22 →
    (generatorAt p).getLsbD p = true ∧ (∀ j, p < j → (generatorAt p).getLsbD j = false) ∧
    (generatorAt p).toNat = Config.G.toNat * 2 ^ (p - 11)

/-- R10: the generator as a polynomial, and that it divides x^23 + 1. -/
def Obligations.GeneratorPolynomial : Prop :=
  wordPoly Config.G = Polynomial.X ^ 11 + Polynomial.X ^ 10 + Polynomial.X ^ 6 + Polynomial.X ^ 5 +
    Polynomial.X ^ 4 + Polynomial.X ^ 2 + 1 ∧
  wordPoly Config.G ∣ (Polynomial.X ^ 23 + 1 : Polynomial (ZMod 2))

/-! ## The table (spec/41_correction_rom.md, spec/42_rom_contents.md) -/

/-- R113: the candidates are exactly the patterns of weight at most 3, 1 + 23 + 253 + 1771 = 2048 of them, and no
two have the same syndrome. -/
def Obligations.CandidatesNeverCollide : Prop :=
  (∀ e : CorrectionEntry, e ∈ candidates ↔ popcount e ≤ 3) ∧
  (patternsOfWeight 0).length = 1 ∧ (patternsOfWeight 1).length = 23 ∧
  (patternsOfWeight 2).length = 253 ∧ (patternsOfWeight 3).length = 1771 ∧
  candidates.length = 2048 ∧ candidates.Nodup ∧
  (candidates.map syndrome).Nodup

/-- R112, R114: the completeness check holds; the construction fills every slot with the listing's word, whatever the order of the candidates; the
order written down is ascending inside each weight. -/
def Obligations.ConstructionGivesListing : Prop :=
  TableComplete buildTable ∧
  (∀ s : Syndrome, buildTable s = some (romRead s)) ∧
  (∀ es : List CorrectionEntry, es.Perm candidates → buildFrom es = buildTable) ∧
  (∀ w, w ≤ 3 → (patternsOfWeight w).Pairwise (· < ·) ∧ ∀ e ∈ patternsOfWeight w, popcount e = w)

/-- R115: the entry at s is the unique pattern of weight at most 3 whose syndrome is s. -/
def Obligations.EntryIsUniqueLightPattern : Prop :=
  ∀ (s : Syndrome) (e : CorrectionEntry), romRead s = e ↔ popcount e ≤ 3 ∧ syndrome e = s

/-- R116: the table is a bijection onto the patterns of weight at most 3, with 1, 23, 253 and 1771 entries of weight
0, 1, 2 and 3. -/
def Obligations.TableIsBijection : Prop :=
  Function.Injective romRead ∧
  (∀ e : CorrectionEntry, (∃ s, romRead s = e) ↔ popcount e ≤ 3) ∧
  (∀ s : Syndrome, popcount (romRead s) = 0 ↔ s = 0) ∧
  Nat.card { s : Syndrome // popcount (romRead s) = 1 } = 23 ∧
  Nat.card { s : Syndrome // popcount (romRead s) = 2 } = 253 ∧
  Nat.card { s : Syndrome // popcount (romRead s) = 3 } = 1771

/-- R117: table and syndrome undo each other on the patterns of weight at most 3, and on no others. -/
def Obligations.TableInvertsSyndrome : Prop :=
  (∀ s : Syndrome, syndrome (romRead s) = s) ∧
  (∀ e : CorrectionEntry, popcount e ≤ 3 → romRead (syndrome e) = e) ∧
  (∀ e : CorrectionEntry, 4 ≤ popcount e → romRead (syndrome e) ≠ e)

/-- R118: an entry equals its index when the index has weight at most 3, 232 entries in all; every other entry has a
bit at 11 or above. -/
def Obligations.LightIndicesHoldThemselves : Prop :=
  (∀ s : Syndrome, popcount s ≤ 3 → romRead s = s.setWidth 23) ∧
  Nat.card { s : Syndrome // popcount s ≤ 3 } = 232 ∧
  (∀ s : Syndrome, 4 ≤ popcount s → ∃ i, 11 ≤ i ∧ (romRead s).getLsbD i = true) ∧
  romRead 0 = 0 ∧ romRead 1 = 1 ∧ romRead 2 = 2 ∧ romRead 3 = 3 ∧ romRead 7 = 7 ∧ romRead 0x0E0 = 0x0000E0

/-- R121: the entry at index 15, and why the source's other number is not it. -/
def Obligations.EntryAtIndex15 : Prop :=
  romRead 15 = 0x024020 ∧ romRead 15 = BitVec.ofNat 23 147488 ∧
  columns[17]? = some 0x6CC ∧ columns[14]? = some 0x6E3 ∧ columns[5]? = some 0x020 ∧
  syndrome 0x024020 = 0x6CC ^^^ 0x6E3 ^^^ 0x020 ∧ syndrome 0x024020 = 0x00F ∧
  popcount (0x024020 : CorrectionEntry) = 3 ∧
  popcount (BitVec.ofNat 23 147459) = 4 ∧ syndrome (BitVec.ofNat 23 147459) = 0x02C

/-- R122: the words of syndrome s are the entry XOR the valid codewords, 4096 of them, and the entry is the only one
of weight at most 3. -/
def Obligations.EntryIsCosetLeader : Prop :=
  (∀ (s : Syndrome) (r : Codeword23), syndrome r = s ↔ ∃ c, validCodeword c = true ∧ r = romRead s ^^^ c) ∧
  (∀ s : Syndrome, Nat.card { r : Codeword23 // syndrome r = s } = 4096) ∧
  (∀ (s : Syndrome) (r : Codeword23), syndrome r = s → r ≠ romRead s → 4 ≤ popcount r) ∧
  (∀ s : Syndrome, popcount (romRead s) ≤ 3)

/-- R130's checks of the listing: its length, that it is what `ROM[s]` reads, that all words differ, their weights,
their syndromes, their XOR and their sum. -/
def Obligations.ListingChecks : Prop :=
  romWords.length = 2048 ∧
  (∀ s : Syndrome, romWords[s.toNat]? = some (romRead s)) ∧
  romWords.Nodup ∧
  romWords.countP (popcount · == 0) = 1 ∧ romWords.countP (popcount · == 1) = 23 ∧
  romWords.countP (popcount · == 2) = 253 ∧ romWords.countP (popcount · == 3) = 1771 ∧
  (∀ s : Syndrome, syndrome (romRead s) = s) ∧
  romWords.foldl (· ^^^ ·) 0 = 0 ∧
  (romWords.map (·.toNat)).sum = 2130706178

/-! ## Decoding (spec/43_decode.md) -/

/-- R142: the truncations remove nothing, and the returned mask is the table entry unchanged. -/
def Obligations.ExtractionsLoseNothing : Prop :=
  (∀ corrected : Codeword23, (dataOfCorrected corrected).toNat = corrected.toNat >>> 11) ∧
  (∀ word : Codeword24, (dropParity word).toNat = word.toNat >>> 1) ∧
  (∀ cw : Codeword23, (decode23 cw).mask = romRead (syndrome cw)) ∧
  (∀ word : Codeword24, (decode24 word).mask = romRead (syndrome (dropParity word)))

/-- R143: the mask of `DEC24` is numbered as a Codeword23, one below the word's bits, and the corrected word keeps
the parity bit as received. -/
def Obligations.Dec24MaskIsShifted : Prop :=
  ∀ word : Codeword24,
    (∀ i, i < 23 → (correctedWord24 word).getLsbD (i + 1) =
      xor (word.getLsbD (i + 1)) ((decode24 word).mask.getLsbD i)) ∧
    parityBit (correctedWord24 word) = parityBit word ∧
    dropParity (correctedWord24 word) = enc (decode24 word).data

/-- R144: the corrected word is a valid codeword, the encoding of the returned data. -/
def Obligations.CorrectedWordIsValid : Prop :=
  ∀ cw : Codeword23, syndrome (cw ^^^ (decode23 cw).mask) = 0 ∧ cw ^^^ (decode23 cw).mask = enc (decode23 cw).data

/-- R145: every returned mask has weight at most 3, and how many inputs give each weight. -/
def Obligations.MaskWeightCounts : Prop :=
  (∀ cw : Codeword23, popcount (decode23 cw).mask ≤ 3) ∧
  Nat.card { cw : Codeword23 // popcount (decode23 cw).mask = 0 } = 4096 ∧
  Nat.card { cw : Codeword23 // popcount (decode23 cw).mask = 1 } = 94208 ∧
  Nat.card { cw : Codeword23 // popcount (decode23 cw).mask = 2 } = 1036288 ∧
  Nat.card { cw : Codeword23 // popcount (decode23 cw).mask = 3 } = 7254016

/-- R146: up to three errors on a valid codeword are recovered exactly, and the mask is the error pattern. -/
def Obligations.ThreeErrorsAreCorrected : Prop :=
  ∀ c e : Codeword23, validCodeword c = true → popcount e ≤ 3 →
    decode23 (c ^^^ e) = { data := dataField c, mask := e } ∧ (decode23 (c ^^^ e)).data = (decode23 c).data

/-- R147: the mask is the error indicator: 0 exactly when the received word was a valid codeword, and its weight is
the number of bits flipped, 0 to 3. -/
def Obligations.MaskIsErrorIndicator : Prop :=
  ∀ cw : Codeword23,
    (nothingCorrected (decode23 cw) = true ↔ validCodeword cw = true) ∧
    (nothingCorrected (decode23 cw) = true → enc (decode23 cw).data = cw) ∧
    correctedBits (decode23 cw) = popcount (cw ^^^ enc (decode23 cw).data) ∧ correctedBits (decode23 cw) ≤ 3

/-- R148: an unmodified valid codeword decodes to its data with mask 0. -/
def Obligations.ZeroErrorIsExact : Prop :=
  (∀ (d : DataWord) (c : Codeword23), syndrome c = 0 → dataField c = d → decode23 c = { data := d, mask := 0 }) ∧
  (∀ d : DataWord, syndrome (enc d) = 0 ∧ decode23 (enc d) = { data := d, mask := 0 })

/-- R149: `DEC24` gives the same for both parity bits, the result of `decode23`, for every 23-bit word. -/
def Obligations.ParityBitIsIgnored : Prop :=
  ∀ c : Codeword23,
    decode24 ((c.setWidth 24 <<< 1) ||| 0) = decode23 c ∧ decode24 ((c.setWidth 24 <<< 1) ||| 1) = decode23 c

/-- R150: `ENC(d)` is the only word with data d and syndrome 0, its values, and its linearity. -/
def Obligations.EncodingHelper : Prop :=
  (∀ d : DataWord, enc d = d ++ syndrome (d.setWidth 23 <<< 11)) ∧
  (∀ (d : DataWord) (c : Codeword23), (dataField c = d ∧ syndrome c = 0) ↔ c = enc d) ∧
  enc 0x000 = 0x000000 ∧ enc 0x001 = 0x000C75 ∧ enc 0x002 = 0x00149F ∧ enc 0x800 = 0x40063A ∧
  enc 0x123 = 0x091856 ∧ enc 0x555 = 0x2AAE86 ∧ enc 0xABC = 0x55E11E ∧ enc 0xFFF = 0x7FFFFF ∧
  (∀ a b : DataWord, enc (a ^^^ b) = enc a ^^^ enc b)

/-- R151: the weights of the 4096 valid codewords; the smallest nonzero weight is 7. -/
def Obligations.CodewordWeights : Prop :=
  Nat.card { c : Codeword23 // validCodeword c = true } = 4096 ∧
  (∀ p ∈ [(0, 1), (7, 253), (8, 506), (11, 1288), (12, 1288), (15, 506), (16, 253), (23, 1)],
    Nat.card { c : Codeword23 // validCodeword c = true ∧ popcount c = p.1 } = p.2) ∧
  (∀ c : Codeword23, validCodeword c = true → c ≠ 0 → Config.DMIN ≤ popcount c) ∧
  (∃ c : Codeword23, validCodeword c = true ∧ popcount c = Config.DMIN)

/-- R152: decoding partitions the words: data d is returned exactly for the 2048 words within 3 positions of
`ENC(d)`, and every word is within 3 positions of exactly one valid codeword. -/
def Obligations.DecodingPartitionsWords : Prop :=
  (∀ (d : DataWord) (r : Codeword23), (decode23 r).data = d ↔ popcount (r ^^^ enc d) ≤ 3) ∧
  (∀ d : DataWord, Nat.card { r : Codeword23 // (decode23 r).data = d } = 2048) ∧
  (∀ (d : DataWord) (r : Codeword23), (decode23 r).data = d ↔ ∃ e, popcount e ≤ 3 ∧ r = enc d ^^^ e) ∧
  (∀ r : Codeword23, ∃! c : Codeword23, validCodeword c = true ∧ popcount (r ^^^ c) ≤ 3) ∧
  (∀ r : Codeword23, (decode23 r).data = 0 ↔ popcount r ≤ 3)

/-- R153: four or more errors always give wrong data, a mask of weight at most 3 and no signal; for exactly four,
the mask has weight 3, shares no bit with the error, and the two together are a valid codeword of weight 7. -/
def Obligations.FourErrorsAreMiscorrected : Prop :=
  (∀ c e : Codeword23, validCodeword c = true → 4 ≤ popcount e →
    (decode23 (c ^^^ e)).data ≠ dataField c ∧ popcount (decode23 (c ^^^ e)).mask ≤ 3 ∧
    (respond (encode (.dec23 (c ^^^ e)))).err = false) ∧
  (∀ c e : Codeword23, validCodeword c = true → popcount e = 4 →
    popcount (decode23 (c ^^^ e)).mask = 3 ∧ (decode23 (c ^^^ e)).mask &&& e = 0 ∧
    validCodeword (e ^^^ (decode23 (c ^^^ e)).mask) = true ∧ popcount (e ^^^ (decode23 (c ^^^ e)).mask) = 7)

/-- R155: the source's scenarios. -/
def Obligations.SourceScenarios : Prop :=
  decode23 0 = { data := 0, mask := 0 } ∧
  decode23 1 = { data := 0x000, mask := 0x000001 } ∧ popcount (decode23 1).mask = 1 ∧
  (∀ i j, i < j → j < 23 →
    decode23 ((1#23 <<< i) ^^^ (1#23 <<< j)) = { data := 0, mask := (1#23 <<< i) ^^^ (1#23 <<< j) } ∧
    popcount ((1#23 <<< i) ^^^ (1#23 <<< j)) = 2) ∧
  (∀ c : Codeword23, validCodeword c = true →
    (decode24 ((c.setWidth 24 <<< 1) ||| 1)).data = (decode23 c).data)

/-! ## Several instances -/

/-- About the model's choice of log entry 10 (DESIGN CHOICE: several instances are a list of states, stepped one at a
time): instances do not affect each other (spec/10_state.md R30; spec/60_exceptions.md R174;
spec/70_reset_and_hazards.md R187); under any interleaving each instance's state is what its own steps alone make of
it. The last clause, that an instance's step is the machine's, rests on every step answering a next state: on R189
with a request waiting, on the model's choice of log entry 3 (DEDUCED) without one. -/
def Obligations.InterleavingsAgree : Prop :=
  (∀ (l : List State) (order : List Nat) (k : Nat),
    (interleave l order)[k]? = l[k]?.map (stepState^[order.count k])) ∧
  (∀ (l : List State) (order order' : List Nat), order.Perm order' → interleave l order = interleave l order') ∧
  (∀ s : State, step s = .next (stepState s))
end

