-- ==== Sys2Proof/Laws/Notation.lean ====
section
/-! SUPPORT. The hexadecimal literals of the textual notation (spec/30_encoding.md R76): a digit written is read back. -/

namespace Sys2Proof.Machine

theorem hexValue_hexDigit {d : Nat} (h : d < 16) : hexValue (hexDigit d) = some d := by
  interval_cases d <;> decide

theorem hexDigits_length (k n : Nat) : (hexDigits k n).length = k := by
  induction k generalizing n with
  | zero => rfl
  | succ k ih => simp [hexDigits, ih]

/-- Reading a list of digits and then more is reading on from the first list's value. -/
theorem readHexDigits_append (acc : Nat) (cs ds : List Char) :
    readHexDigits acc (cs ++ ds) = (readHexDigits acc cs).bind fun n => readHexDigits n ds := by
  induction cs generalizing acc with
  | nil => simp [readHexDigits]
  | cons c cs ih =>
    simp only [List.cons_append, readHexDigits]
    cases hexValue c with
    | none => rfl
    | some d => exact ih _

/-- Digits written are read as the number they were written from, put after what was read before. -/
theorem readHexDigits_hexDigits (k acc n : Nat) (h : n < 16 ^ k) :
    readHexDigits acc (hexDigits k n) = some (acc * 16 ^ k + n) := by
  induction k generalizing n with
  | zero => simp_all [hexDigits, readHexDigits]
  | succ k ih =>
    have hk : n / 16 < 16 ^ k := by
      rw [Nat.pow_succ] at h
      exact Nat.div_lt_of_lt_mul (by omega)
    rw [hexDigits, readHexDigits_append, ih _ hk, Option.bind_some, readHexDigits,
      hexValue_hexDigit (Nat.mod_lt _ (by decide))]
    simp only [readHexDigits, Option.some.injEq]
    rw [Nat.pow_succ]
    have := Nat.div_add_mod n 16
    ring_nf
    ring_nf at this
    omega

end Sys2Proof.Machine
end

