-- ==== Sys2Proof/Laws/State.lean ====
section
/-! SUPPORT. What each update of the state does to each field, one lemma per field per update, true by rfl but
for the placing of a number, which has a case for each side of its range check. -/

namespace Sys2Proof.Machine

@[simp] theorem State.answer_pending (s : State) (r : Response) : (s.answer r).pending = s.pending := rfl

@[simp] theorem State.answer_responses (s : State) (r : Response) :
    (s.answer r).responses = s.responses ++ [r] := rfl

@[simp] theorem State.raiseInputRange_pending (s : State) : s.raiseInputRange.pending = s.pending := rfl

@[simp] theorem State.raiseInputRange_responses (s : State) :
    s.raiseInputRange.responses = s.responses ++ [Response.inputRange] := rfl

@[simp] theorem State.takeException_inputRange (s : State) :
    s.takeException .inputRange = s.raiseInputRange := rfl

@[simp] theorem State.idle_eq (s : State) : s.idle = s := rfl

@[simp] theorem State.placeRequest_pending (s : State) (req : Req) :
    (s.placeRequest req).pending = req :: s.pending.tail := rfl

@[simp] theorem State.placeRequest_responses (s : State) (req : Req) :
    (s.placeRequest req).responses = s.responses := rfl

@[simp] theorem State.withFetchWord_eq (s : State) (nbits w : Nat) : s.withFetchWord nbits w = s.placeNumber w := rfl

/-- A number that is a request word is placed as that request. -/
theorem State.placeNumber_of_lt (s : State) {w : Nat} (h : w < 2 ^ 26) :
    s.placeNumber w = s.placeRequest (BitVec.ofNat 26 w) := if_pos h

/-- A number that is no request word places nothing. -/
theorem State.placeNumber_of_ge (s : State) {w : Nat} (h : 2 ^ 26 ≤ w) : s.placeNumber w = s :=
  if_neg (Nat.not_lt.2 h)

@[simp] theorem State.placeNumber_pending (s : State) (w : Nat) :
    (s.placeNumber w).pending = if w < 2 ^ 26 then BitVec.ofNat 26 w :: s.pending.tail else s.pending := by
  unfold State.placeNumber
  split <;> rfl

@[simp] theorem State.placeNumber_responses (s : State) (w : Nat) : (s.placeNumber w).responses = s.responses := by
  unfold State.placeNumber
  split <;> rfl

@[simp] theorem State.reset_pending : State.reset.pending = [] := rfl

@[simp] theorem State.reset_responses : State.reset.responses = [] := rfl

end Sys2Proof.Machine
end

