-- ==== Sys2Proof/Laws/Ops.lean ====
section
/-! SUPPORT. What the shared operations, `exec` and `step` can do, each said once; later proofs cite these. -/

namespace Sys2Proof.Machine

theorem popcount_le_width {w : Nat} (v : BitVec w) : popcount v ≤ w := by
  simpa [popcount] using List.countP_le_length (p := fun i => v.getLsbD i) (l := List.range w)

/-- Weight 0 is the zero word. -/
theorem popcount_eq_zero {w : Nat} (v : BitVec w) : popcount v = 0 ↔ v = 0 := by
  rw [popcount, List.countP_eq_zero]
  constructor
  · intro h
    refine BitVec.eq_of_getLsbD_eq fun i hi => ?_
    simpa using h i (List.mem_range.2 hi)
  · rintro rfl i _
    simp

/-- Taking a request: either none is waiting, or the first one is taken and the rest and the responses stay. -/
theorem State.takeRequest_eq (s : State) :
    (s.pending = [] ∧ s.takeRequest = none) ∨
    ∃ req rest, s.pending = req :: rest ∧ s.takeRequest = some (req, { s with pending := rest }) := by
  unfold State.takeRequest
  cases h : s.pending with
  | nil => exact .inl ⟨rfl, rfl⟩
  | cons req rest => exact .inr ⟨req, rest, rfl, rfl⟩

theorem State.takeRequest_cons {s : State} {req : Req} {rest : List Req} (h : s.pending = req :: rest) :
    s.takeRequest = some (req, { s with pending := rest }) := by
  simp [State.takeRequest, h]

theorem State.takeRequest_nil {s : State} (h : s.pending = []) : s.takeRequest = none := by
  simp [State.takeRequest, h]

/-- The response an operation gives, as `exec` computes it: through the modules. -/
def execResponse : Instr → Response
  | .syn cw => .ofSyndrome (golaySyndromeCalc cw)
  | .rom addr => .ofEntry (golayCorrectionTableRom addr)
  | .dec23 cw => .ofDecoded (golayDecoder23bit cw)
  | .dec24 word => .ofDecoded (golayDecoder24bit word)

/-- Everything `exec` does: it answers with the operation's response. -/
theorem exec_eq (i : Instr) (s : State) : exec i s = .next (s.answer (execResponse i)) := by
  cases i <;> rfl

/-- A next state of `exec` is the state with the operation's response given. -/
theorem exec_next {i : Instr} {s t : State} (h : exec i s = .next t) : t = s.answer (execResponse i) := by
  rw [exec_eq] at h
  injection h with h
  exact h.symm

/-- Everything a step does: idle, run the decoded operation, or take `InputRange`. -/
theorem step_cases (s : State) :
    (s.pending = [] ∧ step s = .next s) ∨
    (∃ req rest i, s.pending = req :: rest ∧ decode req = .ok i ∧
      step s = .next (State.answer { s with pending := rest } (execResponse i))) ∨
    (∃ req rest, s.pending = req :: rest ∧ decode req = .error .inputRange ∧
      step s = .next (State.answer { s with pending := rest } Response.inputRange)) := by
  obtain ⟨hp, ht⟩ | ⟨req, rest, hp, ht⟩ := s.takeRequest_eq
  · exact .inl ⟨hp, by simp [step, ht]⟩
  · cases hd : decode req with
    | ok i => exact .inr (.inl ⟨req, rest, i, hp, hd, by simp [step, ht, hd, exec_eq]⟩)
    | error e =>
      cases e
      exact .inr (.inr ⟨req, rest, hp, hd, by simp [step, ht, hd, State.raiseInputRange]⟩)


end Sys2Proof.Machine
end

