-- ==== Sys2Proof/Laws/PerInstr.lean ====
section
/-! SUPPORT. Statements about every operation as syntax, one lemma per constructor (LAWS.json names the families). -/

/-- The operation's request word is legal: it selects a row of spec/30_encoding.md R72. -/
def Sys2Proof.Laws.EncodesLegally.Statement (i : Sys2Proof.Instr) : Prop :=
  Sys2Proof.requestWellFormed (Sys2Proof.encode i) = true

namespace Sys2Proof.Laws.EncodesLegally

/-- A request whose masked bits all agree with a row of the list is legal. -/
theorem requestWellFormed_of_selects {row : OpcodeRow} {req : Req} (hrow : row ∈ opcodeRows)
    (h : req &&& row.mask = row.pattern) : requestWellFormed req = true :=
  List.any_eq_true.2 ⟨row, hrow, by simpa [OpcodeRow.selects] using h⟩

theorem syn (cw : Codeword23) : Statement (.syn cw) := by
  refine requestWellFormed_of_selects (row := ⟨"SYN", 0x0000000, 0x3800000⟩) (by decide) ?_
  refine BitVec.eq_of_getLsbD_eq fun i hi => ?_
  rw [BitVec.getLsbD_and, encode, BitVec.getLsbD_append]
  interval_cases i <;> simp

theorem rom (addr : Syndrome) : Statement (.rom addr) := by
  refine requestWellFormed_of_selects (row := ⟨"ROM", 0x1000000, 0x3FFF800⟩) (by decide) ?_
  refine BitVec.eq_of_getLsbD_eq fun i hi => ?_
  rw [BitVec.getLsbD_and, encode, BitVec.getLsbD_append]
  interval_cases i <;> simp

theorem dec23 (cw : Codeword23) : Statement (.dec23 cw) := by
  refine requestWellFormed_of_selects (row := ⟨"DEC23", 0x2000000, 0x3800000⟩) (by decide) ?_
  refine BitVec.eq_of_getLsbD_eq fun i hi => ?_
  rw [BitVec.getLsbD_and, encode, BitVec.getLsbD_append]
  interval_cases i <;> simp

theorem dec24 (word : Codeword24) : Statement (.dec24 word) := by
  refine requestWellFormed_of_selects (row := ⟨"DEC24", 0x3000000, 0x3000000⟩) (by decide) ?_
  refine BitVec.eq_of_getLsbD_eq fun i hi => ?_
  rw [BitVec.getLsbD_and, encode, BitVec.getLsbD_append]
  interval_cases i <;> simp

end Sys2Proof.Laws.EncodesLegally
end

