-- ==== Sys2Proof/Laws/Syndrome.lean ====
section
/-! SUPPORT. The small lemmas of the syndrome algorithm's parts (spec/40_syndrome.md R91, R92): the shifted generator,
the two loops, and a step of the unrolled form. -/

namespace Sys2Proof.Machine

theorem highMask_eq : highMask = 0x7FF800 := by decide

/-- Bit j of the shifted generator, for a position the algorithm uses. -/
theorem getLsbD_generatorAt {p j : Nat} (hp : p ≤ 22) (hj : 11 ≤ p) :
    (generatorAt p).getLsbD j = (decide (p ≤ j + 11) && Config.G.getLsbD (j + 11 - p)) := by
  by_cases hjw : j < 23
  · interval_cases p <;> interval_cases j <;> decide
  · rw [BitVec.getLsbD_of_ge _ _ (by omega)]
    rw [BitVec.getLsbD_of_ge Config.G _ (by omega), Bool.and_false]

theorem alignProbe_le (v : Codeword23) (p : Nat) : alignProbe v p ≤ p := by
  induction p with
  | zero => simp [alignProbe]
  | succ p ih =>
    unfold alignProbe
    split <;> omega

/-- The inner loop stops at a set bit when there is one at or below the probe. -/
theorem getLsbD_alignProbe {v : Codeword23} {p j : Nat} (hj : j ≤ p) (h : v.getLsbD j = true) :
    v.getLsbD (alignProbe v p) = true ∧ j ≤ alignProbe v p := by
  induction p with
  | zero =>
    obtain rfl : j = 0 := by omega
    exact ⟨h, Nat.zero_le _⟩
  | succ p ih =>
    unfold alignProbe
    split
    · exact ⟨by assumption, hj⟩
    · rename_i hp
      rcases Nat.lt_or_ge p j with h' | h'
      · obtain rfl : j = p + 1 := by omega
        exact absurd h hp
      · exact ih h'

/-- The bits the inner loop passes over are clear. -/
theorem getLsbD_of_alignProbe_lt {v : Codeword23} {p j : Nat} (h : alignProbe v p < j) (hj : j ≤ p) :
    v.getLsbD j = false := by
  by_contra hb
  have := (getLsbD_alignProbe hj (by simpa using hb)).2
  omega

@[simp] theorem reduce_zero (v : Codeword23) (p : Nat) : reduce 0 v p = v := rfl

theorem reduce_done {v : Codeword23} (fuel p : Nat) (h : v &&& highMask = 0) : reduce fuel v p = v := by
  cases fuel with
  | zero => rfl
  | succ n => simp [reduce, h]

theorem reduce_step {v : Codeword23} (fuel p : Nat) (h : v &&& highMask ≠ 0) :
    reduce (fuel + 1) v p = reduce fuel (v ^^^ generatorAt (alignProbe v p)) (alignProbe v p) := by
  rw [reduce, if_neg h]

theorem reduceTrace_done {v : Codeword23} (fuel p : Nat) (h : v &&& highMask = 0) : reduceTrace fuel v p = [] := by
  cases fuel with
  | zero => rfl
  | succ n => simp [reduceTrace, h]

theorem reduceTrace_step {v : Codeword23} (fuel p : Nat) (h : v &&& highMask ≠ 0) :
    reduceTrace (fuel + 1) v p =
      (v, alignProbe v p) :: reduceTrace fuel (v ^^^ generatorAt (alignProbe v p)) (alignProbe v p) := by
  rw [reduceTrace, if_neg h]

theorem unrolledStep_clear {v : Codeword23} {i : Nat} (h : v.getLsbD i = false) : unrolledStep v i = v := by
  simp [unrolledStep, h]

theorem unrolledStep_set {v : Codeword23} {i : Nat} (h : v.getLsbD i = true) :
    unrolledStep v i = v ^^^ generatorAt i := by
  simp [unrolledStep, h]

/-- A step of the unrolled form is linear. -/
theorem unrolledStep_xor (a b : Codeword23) (i : Nat) :
    unrolledStep (a ^^^ b) i = unrolledStep a i ^^^ unrolledStep b i := by
  unfold unrolledStep
  cases ha : a.getLsbD i <;> cases hb : b.getLsbD i <;> refine BitVec.eq_of_getLsbD_eq fun j _ => ?_ <;>
    simp only [BitVec.getLsbD_xor, ha, hb, Bool.xor_true, Bool.xor_false, Bool.not_true, Bool.not_false,
      if_true, if_false, Bool.false_eq_true] <;>
    cases a.getLsbD j <;> cases b.getLsbD j <;> cases (generatorAt i).getLsbD j <;> rfl

/-- The value after n steps of the unrolled form is linear in the word. -/
theorem unrolledValue_xor (a b : Codeword23) (n : Nat) :
    unrolledValue (a ^^^ b) n = unrolledValue a n ^^^ unrolledValue b n := by
  induction n with
  | zero => rfl
  | succ n ih => simp only [unrolledValue, ih, unrolledStep_xor]

end Sys2Proof.Machine
end

