-- ==== Sys2Proof/Laws/Table.lean ====
section
/-! SUPPORT. Reading the table (spec/20_memory.md R41, R42) and the parts of its construction (spec/41_correction_rom.md
R111): the listing has a word at every address, and first-writer-wins picks the first candidate of a syndrome. -/

namespace Sys2Proof.Machine

theorem romPages_length : romPages.length = 32 := by decide

theorem romPages_page_length : ∀ page ∈ romPages, page.length = 64 := by decide +kernel

theorem romWords_length : romWords.length = 2048 := by decide +kernel

/-- In pages of one length, the flat index n stands in page n / k at place n % k. -/
theorem getElem?_flatten_of_length {α : Type} {k : Nat} (hk : 0 < k) (pages : List (List α))
    (h : ∀ page ∈ pages, page.length = k) (n : Nat) :
    pages.flatten[n]? = (pages[n / k]?).bind fun page => page[n % k]? := by
  induction pages generalizing n with
  | nil => simp
  | cons page rest ih =>
    have hp : page.length = k := h page (by simp)
    rcases Nat.lt_or_ge n k with hn | hn
    · simp [List.getElem?_append_left, hp, hn, Nat.div_eq_of_lt hn, Nat.mod_eq_of_lt hn]
    · obtain ⟨m, rfl⟩ := Nat.exists_eq_add_of_le hn
      rw [List.flatten_cons, List.getElem?_append_right (by omega), hp, Nat.add_sub_cancel_left,
        ih (fun q hq => h q (List.mem_cons_of_mem _ hq)), Nat.add_div_left _ hk, Nat.add_mod_left]
      simp

/-- The address is always in the listing, and `romRead` gives the word there: the default is never used. -/
theorem getElem?_romWords (s : Syndrome) : romWords[s.toNat]? = some (romRead s) := by
  have hs : s.toNat < romWords.length := by rw [romWords_length]; exact s.isLt
  have h := getElem?_flatten_of_length (k := 64) (by decide) romPages romPages_page_length s.toNat
  rw [← romWords, List.getElem?_eq_getElem hs] at h
  rw [List.getElem?_eq_getElem hs, h]
  unfold romRead
  cases hpage : romPages[s.toNat / 64]? with
  | none => simp [hpage] at h
  | some page =>
    rw [hpage, Option.bind_some] at h
    simp [List.getD_eq_getElem?_getD, hpage, ← h]

/-- The completeness check of the constant table (R114): every index has an entry. -/
theorem romWords_complete : TableComplete fun s => romWords[s.toNat]? := fun s =>
  Option.isSome_of_eq_some (getElem?_romWords s)

/-- An entry is the listing's word at its address. -/
theorem romRead_mem (s : Syndrome) : romRead s ∈ romWords :=
  List.mem_of_getElem? (getElem?_romWords s)

theorem placeCandidate_filled {table : Syndrome → Option CorrectionEntry} {s : Syndrome} {old : CorrectionEntry}
    (h : table s = some old) (e : CorrectionEntry) : placeCandidate table e s = some old := by
  simp [placeCandidate, h]

theorem placeCandidate_unfilled {table : Syndrome → Option CorrectionEntry} {s : Syndrome}
    (h : table s = none) (e : CorrectionEntry) :
    placeCandidate table e s = if s = syndrome e then some e else none := by
  simp [placeCandidate, h]

/-- Placing candidates one after another fills a slot with the first one of its syndrome, unless it is filled. -/
theorem foldl_placeCandidate (es : List CorrectionEntry) (table : Syndrome → Option CorrectionEntry) (s : Syndrome) :
    es.foldl placeCandidate table s = (table s).or (es.find? fun e => s = syndrome e) := by
  induction es generalizing table with
  | nil => simp
  | cons e es ih =>
    rw [List.foldl_cons, ih]
    cases ht : table s with
    | some old => simp [placeCandidate_filled ht]
    | none =>
      rw [placeCandidate_unfilled ht, List.find?_cons]
      by_cases hs : s = syndrome e <;> simp [hs]

/-- The built table holds, at s, the first candidate whose syndrome is s (R111, first writer wins). -/
theorem buildFrom_eq_find? (es : List CorrectionEntry) (s : Syndrome) :
    buildFrom es s = es.find? fun e => s = syndrome e := by
  simp [buildFrom, foldl_placeCandidate]

/-- The numbers listed lie below 2^n. -/
theorem lt_of_mem_numbersOfWeight {n w m : Nat} (h : m ∈ numbersOfWeight n w) : m < 2 ^ n := by
  induction n generalizing w m with
  | zero => cases w <;> simp_all [numbersOfWeight]
  | succ n ih =>
    have hpow : 2 ^ (n + 1) = 2 ^ n + 2 ^ n := by omega
    cases w with
    | zero => have := ih h; omega
    | succ w =>
      simp only [numbersOfWeight, List.mem_append, List.mem_map] at h
      obtain h | ⟨m', h, rfl⟩ := h
      · have := ih h; omega
      · have := ih h; omega

/-- The list of one weight is in ascending order (R112). -/
theorem pairwise_numbersOfWeight (n w : Nat) : (numbersOfWeight n w).Pairwise (· < ·) := by
  induction n generalizing w with
  | zero => cases w <;> simp [numbersOfWeight]
  | succ n ih =>
    cases w with
    | zero => exact ih 0
    | succ w =>
      simp only [numbersOfWeight]
      refine List.pairwise_append.2 ⟨ih _, ?_, ?_⟩
      · exact List.pairwise_map.2 ((ih w).imp fun h => by omega)
      · intro a ha b hb
        obtain ⟨c, -, rfl⟩ := List.mem_map.1 hb
        have := lt_of_mem_numbersOfWeight ha
        omega

end Sys2Proof.Machine
end

