-- ==== Sys2Proof/Tests/Slice0.lean ====
section
/-! SUPPORT. Checks of the model against spec/95_test_vectors.md and the corner cases of the rules, and for each
statement of Certificates/Slice0/Obligations.lean that has hypotheses a witness that meets them. Expected values are
the spec's. -/

namespace Sys2Proof.Tests

open Sys2Proof.Machine

/-- The responses after one step that takes the given request word first from reset. -/
def answersFromReset (w : Nat) : List Response :=
  match step (State.reset.withFetchWord 32 w) with
  | .next t => t.responses
  | _ => []

/-- The packed responses, as spec/95_test_vectors.md lists them. -/
def packedFromReset (w : Nat) : List Nat := (answersFromReset w).map fun r => r.pack.toNat

/-- The fixed parameters fit one another (spec/00_scope.md R9). -/
theorem test_parameters :
    Config.N = Config.K + Config.C ∧ Config.NSYN = 2 ^ Config.C ∧ Config.W24 = Config.N + 1 ∧
    Config.G.toNat = 3189 ∧ Config.G = 0b110001110101 ∧ highMask = 0x7FF800 := by decide

/-! ## Well-formedness: each reserved field of R72, set, is refused -/

theorem test_syn_reserved_bit_refused : requestWellFormed 0x0800000 = false := by decide

theorem test_rom_reserved_bits_refused :
    requestWellFormed 0x1000800 = false ∧ requestWellFormed 0x1800000 = false := by decide

theorem test_dec23_reserved_bit_refused : requestWellFormed 0x2800000 = false := by decide

theorem test_legal_requests_accepted :
    requestWellFormed 0x07FFFFF = true ∧ requestWellFormed 0x10007FF = true ∧
    requestWellFormed 0x27FFFFF = true ∧ requestWellFormed 0x3FFFFFF = true := by decide

/-! ## Decoding, from words written out field by field (R70, R72, R73) -/

theorem test_decode_syn :
    decode (0b00#2 ++ 0b0#1 ++ 0b00100100011010001010110#23) = .ok (.syn 0x123456) := by decide

theorem test_decode_rom :
    decode (0b01#2 ++ 0b0000000000000#13 ++ 0b00000001111#11) = .ok (.rom 0x00F) := by decide

theorem test_decode_dec23 :
    decode (0b10#2 ++ 0b0#1 ++ 0b10101011110000100011111#23) = .ok (.dec23 0x55E11F) := by decide

theorem test_decode_dec24 :
    decode (0b11#2 ++ 0b101010111100001000111101#24) = .ok (.dec24 0xABC23D) := by decide

theorem test_decode_reserved :
    decode (0b00#2 ++ 0b1#1 ++ 0#23) = .error .inputRange ∧
    decode (0b01#2 ++ 0b0000000000001#13 ++ 0#11) = .error .inputRange ∧
    decode (0b01#2 ++ 0b1000000000000#13 ++ 0#11) = .error .inputRange ∧
    decode (0b10#2 ++ 0b1#1 ++ 0#23) = .error .inputRange := by decide

theorem test_decodeTableWord :
    decodeTableWord 32 0x100000F = some (.rom 0x00F) ∧ decodeTableWord 32 0x2D5E11E = none ∧
    decodeTableWord 32 (2 ^ 26) = none := by decide

/-- A number that is no request word is placed nowhere; the largest request word is (log entry 13). -/
theorem test_withFetchWord_range :
    (State.reset.withFetchWord 32 (2 ^ 26)).pending = [] ∧
    (State.reset.withFetchWord 32 (2 ^ 26 - 1)).pending = [0x3FFFFFF] := by decide

/-! ## One step per operation (spec/95_test_vectors.md 2.1 to 2.5) -/

theorem test_syn_example : packedFromReset 0x0123456 = [0x0000000004FA] := by decide +kernel

theorem test_syn_twelve_iterations : packedFromReset 0x042C800 = [0x0000000003D3] := by decide +kernel

theorem test_rom_index_15 : packedFromReset 0x100000F = [0x000012010000] := by decide +kernel

theorem test_rom_last_address : packedFromReset 0x10007FF = [0x000014040000] := by decide +kernel

theorem test_dec23_example : packedFromReset 0x255E11F = [0x2AF000000800] := by decide +kernel

theorem test_dec23_four_errors : packedFromReset 0x2780000 = [0x3C1001201000] := by decide +kernel

theorem test_dec24_example : packedFromReset 0x3ABC03F = [0x2AF000080800] := by decide +kernel

theorem test_dec24_top_bit : packedFromReset 0x3800000 = [0x000200000000] := by decide +kernel

theorem test_inputRange : packedFromReset 0x2D5E11E = [0x400000000000] := by decide +kernel

/-- R91's trace of `SYN 0x123456` (spec/95_test_vectors.md 2.1): values before, and probe positions. -/
theorem test_syndrome_trace : reduceTrace 12 0x123456 22 =
    [(0x123456, 20), (0x0ADE56, 19), (0x06AB56, 18), (0x0091D6, 15), (0x005686, 14), (0x00352E, 13)] := by
  decide +kernel

/-- The written forms (R76, R77), with a literal too wide for its operation (2.5). -/
theorem test_written_forms :
    readRequest ['S', 'Y', 'N', ' ', '0', 'x', '8', '0', '0', '0', '0', '0'] = some 0x0800000 ∧
    writeRequest (.rom 0x00F) = ['R', 'O', 'M', ' ', '0', 'x', '0', '0', 'F'] ∧
    writeResponse Response.inputRange =
      "err=1 data=0x000 mask=0x000000 syn=0x000".toList := by decide +kernel

/-! ## Witnesses: the hypotheses of each statement can be met -/

/-- A state with one request waiting and one response given. -/
def sampleState (req : Req) : State :=
  { pending := [req], responses := [Response.ofSyndrome 0x7FF] }

/-- ReservedBitsAreRefused, RespondPerOperation. -/
theorem test_witness_reserved :
    (sampleState 0x0800000).pending = [0x0800000] ∧ requestWellFormed 0x0800000 = false := by decide

/-- WrittenRequestsAreRead: the ends of the three ranges. -/
theorem test_witness_wide_literals :
    (assemble 0b00 (2 ^ 23)).map decode = some (.error .inputRange) ∧
    (assemble 0b00 (2 ^ 24 - 1)).map decode = some (.error .inputRange) ∧
    (assemble 0b01 (2 ^ 11)).map decode = some (.error .inputRange) ∧
    (assemble 0b01 (2 ^ 24 - 1)).map decode = some (.error .inputRange) ∧
    (assemble 0b10 (2 ^ 23)).map decode = some (.error .inputRange) ∧
    assemble 0b00 (2 ^ 24) = none := by decide

/-- StepRunsDecodedInstr, StepAnswersRespond. -/
theorem test_witness_step_runs :
    (sampleState 0x0123456).pending = [0x0123456] ∧ decode 0x0123456 = .ok (.syn 0x123456) := by decide

/-- StepWithoutRequestIdles. -/
theorem test_witness_idle : State.reset.pending = [] := rfl

/-- EveryStepAnswers, both with a request waiting and without. -/
theorem test_witness_every_step :
    step (sampleState 0x1000000) =
      .next { pending := [], responses := [Response.ofSyndrome 0x7FF, Response.ofEntry 0] } ∧
    step State.reset = .next State.reset := ⟨rfl, rfl⟩

/-- SynAnswersSyndrome, CheckBitsPassThrough: the largest word that passes through. -/
theorem test_witness_small_word : (0x0007FF : Codeword23).toNat < 0x000800 ∧ syndrome 0x0007FF = 0x7FF := by
  decide +kernel

/-- RomAnswersEntry: the lowest and the highest reserved bit. -/
theorem test_witness_rom_high : (0x0001 : BitVec 13) ≠ 0 ∧ (0x1000 : BitVec 13) ≠ 0 := by decide

/-- ExecFrame: an operation that answers, an earlier response, and the new one. -/
theorem test_witness_frame :
    exec (.rom 0) (sampleState 0) =
      .next { pending := [0], responses := [Response.ofSyndrome 0x7FF, Response.ofEntry 0] } ∧
    0 < (sampleState 0).responses.length ∧
    [Response.ofSyndrome 0x7FF, Response.ofEntry 0][(sampleState 0).responses.length]? =
      some (Response.ofEntry 0) := ⟨rfl, by decide, rfl⟩

/-- StepKeepsInv. -/
theorem test_witness_inv :
    (sampleState 0x1000000).Inv ∧ step (sampleState 0x1000000) =
      .next { pending := [], responses := [Response.ofSyndrome 0x7FF, Response.ofEntry 0] } :=
  ⟨by decide +kernel, rfl⟩

/-- ShapeIsExactlyRespond, StepAnswersRespond (a response with `err`): a response of each kind has the shape and is some request's. -/
theorem test_witness_shape :
    Response.inputRange.Shape ∧ respond 0x0800000 = Response.inputRange ∧
    (Response.ofSyndrome 0x475).Shape ∧ respond 0x0000800 = Response.ofSyndrome 0x475 ∧
    (Response.ofDecoded ⟨0xABC, 0x000101⟩).Shape ∧
    respond 0x255E01F = Response.ofDecoded ⟨0xABC, 0x000101⟩ := by decide +kernel

/-- PortRefusesWideIntegers: the ends of a port's range, and the values beside them. -/
theorem test_witness_port :
    presentOnPort 23 0x7FFFFF = some 0x7FFFFF ∧ presentOnPort 23 0 = some 0 ∧
    presentOnPort 23 0x800000 = none ∧ presentOnPort 23 (-1) = none := by decide

/-- UnrolledFormAgrees, ShiftedGeneratorFits: the ends of the range of positions. -/
theorem test_witness_positions :
    (unrolledStep 0x400000 22).getLsbD 22 = false ∧ (unrolledStep 0x000800 11).getLsbD 11 = false ∧
    (unrolledValue 0x7FFFFF 12).getLsbD 11 = false ∧
    (generatorAt 11).getLsbD 11 = true ∧ (generatorAt 22).getLsbD 22 = true := by decide

/-- SyndromeIsRemainder: a division of the zero word. -/
theorem test_witness_remainder :
    (0 : Polynomial (ZMod 2)).degree < 11 ∧
    wordPoly (0 : Codeword23) = (0 : Polynomial (ZMod 2)) * wordPoly Config.G + 0 := by
  refine ⟨by rw [Polynomial.degree_zero]; exact WithBot.bot_lt_coe 11, ?_⟩
  simp [wordPoly]

/-- ColumnFormAgrees: the ends of the ranges (R94's tables). -/
theorem test_witness_columns :
    columns[0]? = some 0x001 ∧ columns[22]? = some 0x63A ∧ syndrome (1#23 <<< 22) = 0x63A ∧
    syndromeBit 0x400000 10 = true ∧ syndromeBit 0x400000 0 = false := by decide +kernel

/-- LoopIsBounded: more fuel than needed. -/
theorem test_witness_fuel : 12 ≤ 13 ∧ reduce 13 0x42C800 22 = 0x0003D3 := by decide +kernel

/-- ProbeStaysAboveSetBits: the highest and the lowest bit of the loop's range, the probe at it. -/
theorem test_witness_probe :
    (∀ j, 11 ≤ j → (0x400000 : Codeword23).getLsbD j = true → j ≤ 22) ∧ (0x400000 : Codeword23) &&& highMask ≠ 0 ∧
    (∀ j, 11 ≤ j → (0x000800 : Codeword23).getLsbD j = true → j ≤ 11) ∧ (0x000800 : Codeword23) &&& highMask ≠ 0 := by
  refine ⟨fun j _ h => ?_, by decide, fun j _ h => ?_, by decide⟩
  · have := BitVec.lt_of_getLsbD h
    omega
  · have hj := BitVec.lt_of_getLsbD h
    interval_cases j <;> first | omega | exact absurd h (by decide)

/-- ConstructionGivesListing: another order of the candidates. -/
theorem test_witness_order : candidates.reverse.Perm candidates := List.reverse_perm _

/-- TableInvertsSyndrome, EntryIsUniqueLightPattern, LightIndicesHoldThemselves: weights 3 and 4. -/
theorem test_witness_weights :
    popcount (0x700000 : CorrectionEntry) = 3 ∧ popcount (0x780000 : CorrectionEntry) = 4 ∧
    popcount (0x700 : Syndrome) = 3 ∧ popcount (0x00F : Syndrome) = 4 := by decide

/-- EntryIsCosetLeader: a word of a syndrome that is not its entry (R121's rejected number). -/
theorem test_witness_coset : syndrome 0x024003 = 0x02C ∧ (0x024003 : Codeword23) ≠ romRead 0x02C := by
  decide +kernel

/-- ThreeErrorsAreCorrected, FourErrorsAreMiscorrected, ZeroErrorIsExact, CodewordWeights, SourceScenarios: a valid
codeword that is not zero, and patterns of weight 0, 3 and 4. -/
theorem test_witness_codeword :
    validCodeword 0x55E11E = true ∧ syndrome 0x55E11E = 0 ∧ dataField 0x55E11E = 0xABC ∧
    (0x55E11E : Codeword23) ≠ 0 ∧ popcount (0x000000 : Codeword23) ≤ 3 ∧ popcount (0x700000 : Codeword23) ≤ 3 ∧
    popcount (0x00000F : Codeword23) = 4 := by decide +kernel

/-- MaskIsErrorIndicator. -/
theorem test_witness_indicator : nothingCorrected (decode23 0x55E11E) = true := by decide +kernel

/-- SourceScenarios: the pair of bits at the two ends. -/
theorem test_witness_pair : 0 < 22 ∧ 22 < 23 ∧ decode23 0x400001 = ⟨0x000, 0x400001⟩ := by decide +kernel

/-- InterleavingsAgree: two orders of the same turns. -/
theorem test_witness_orders : [0, 1, 0].Perm [1, 0, 0] := by decide

end Sys2Proof.Tests
end

namespace Sys2Proof.Machine

/-! ## The generator polynomial (R10) -/

open Polynomial

/-- R10's polynomial, read off the bits 11, 10, 6, 5, 4, 2 and 0 of `0xC75`. -/
theorem wordPoly_G :
    wordPoly Config.G = X ^ 11 + X ^ 10 + X ^ 6 + X ^ 5 + X ^ 4 + X ^ 2 + 1 := by
  simp [wordPoly, Config.G, Finset.sum_range_succ]
  ring

/-- The quotient of x^23 + 1 by the generator, of degree 12, as a word: the code's check polynomial. -/
def checkWord : BitVec 13 := 0x1F25

theorem wordPoly_checkWord :
    wordPoly checkWord = X ^ 12 + X ^ 11 + X ^ 10 + X ^ 9 + X ^ 8 + X ^ 5 + X ^ 2 + 1 := by
  simp [wordPoly, checkWord, Finset.sum_range_succ]
  ring

/-- The product is x^23 + 1 plus twice a polynomial, and twice a polynomial is zero over GF(2). -/
theorem wordPoly_G_mul_checkWord : wordPoly Config.G * wordPoly checkWord = X ^ 23 + 1 := by
  have two_eq_zero : (2 : (ZMod 2)[X]) = 0 := CharTwo.two_eq_zero
  rw [wordPoly_G, wordPoly_checkWord]
  linear_combination
    (X ^ 22 + X ^ 21 + X ^ 20 + X ^ 19 + X ^ 18 + X ^ 17 + 2 * X ^ 16 + 2 * X ^ 15 + 2 * X ^ 14 +
      2 * X ^ 13 + 2 * X ^ 12 + 2 * X ^ 11 + 2 * X ^ 10 + X ^ 9 + X ^ 8 + X ^ 7 + X ^ 6 + X ^ 5 +
      X ^ 4 + X ^ 2) * two_eq_zero

/-- Settles O33: the seven terms of `G`, and the check polynomial as the quotient. -/
theorem generatorPolynomial : Obligations.GeneratorPolynomial :=
  ⟨wordPoly_G, Dvd.intro _ wordPoly_G_mul_checkWord⟩

end Sys2Proof.Machine

namespace Sys2Proof.Machine

/-! ## The frame of the operations (R22 to R26, R31, R32) -/

@[simp] theorem execResponse_err (i : Instr) : (execResponse i).err = false := by
  cases i <;> rfl

theorem State.answer_responses_getElem?_of_lt {s : State} {n : Nat} (r : Response) (h : n < s.responses.length) :
    (s.answer r).responses[n]? = s.responses[n]? :=
  List.getElem?_append_left h

/-- Settles O16: `exec` gives one response with no `err`, and giving a response only adds it at the end. -/
theorem execFrame : Obligations.ExecFrame := by
  intro i s t h
  obtain rfl := exec_next h
  refine ⟨State.answer_pending s _, by simp, fun n hn => State.answer_responses_getElem?_of_lt _ hn, ?_⟩
  intro r hr
  obtain rfl : execResponse i = r := by simpa using hr
  exact execResponse_err i

/-! ## Several instances (R30, R174, R187, R189) -/

theorem stepState_of_step {s t : State} (h : step s = .next t) : stepState s = t := by
  simp [stepState, h]

/-- Each case of a step answers a next state, so `stepState` never falls back on its argument. -/
theorem step_eq_next_stepState (s : State) : step s = .next (stepState s) := by
  obtain ⟨t, ht⟩ : ∃ t, step s = .next t := by
    obtain ⟨-, h⟩ | ⟨_, _, _, -, -, h⟩ | ⟨_, _, -, -, h⟩ := step_cases s <;> exact ⟨_, h⟩
  rw [stepState_of_step ht, ht]

@[simp] theorem interleave_nil (l : List State) : interleave l [] = l := rfl

@[simp] theorem interleave_cons (l : List State) (j : Nat) (order : List Nat) :
    interleave l (j :: order) = interleave (stepInstance l j) order := rfl

theorem stepInstance_getElem?_self (l : List State) (k : Nat) : (stepInstance l k)[k]? = l[k]?.map stepState := by
  simp [stepInstance]

theorem stepInstance_getElem?_of_ne (l : List State) {j k : Nat} (h : j ≠ k) : (stepInstance l j)[k]? = l[k]? := by
  simp [stepInstance, h]

/-- The `k`-th state depends only on how often `k` has its turn. -/
theorem interleave_getElem? (l : List State) (order : List Nat) (k : Nat) :
    (interleave l order)[k]? = l[k]?.map (stepState^[order.count k]) := by
  induction order generalizing l with
  | nil => simp
  | cons j order ih =>
    rw [interleave_cons, ih]
    by_cases h : j = k
    · subst h
      rw [stepInstance_getElem?_self, List.count_cons_self, Option.map_map, Function.iterate_succ]
    · rw [stepInstance_getElem?_of_ne l h, List.count_cons_of_ne h]

/-- The order of the turns does not matter: `k` has as many turns in the one as in the other, whatever `k` is. -/
theorem interleave_perm (l : List State) {order order' : List Nat} (h : order.Perm order') :
    interleave l order = interleave l order' :=
  List.ext_getElem? fun k => by rw [interleave_getElem?, interleave_getElem?, h.count_eq k]

/-- Settles O56: a turn steps the state it names and leaves the others, so only the number of turns counts. -/
theorem interleavingsAgree : Obligations.InterleavingsAgree :=
  ⟨interleave_getElem?, fun l _ _ h => interleave_perm l h, step_eq_next_stepState⟩

end Sys2Proof.Machine

namespace Sys2Proof

/-! ## Request words by their fields (R70, R72, R73) -/

@[simp] theorem reqOp_append (op : BitVec 2) (arg : BitVec 24) : reqOp (op ++ arg) = op :=
  BitVec.extractLsb'_append_eq_left

@[simp] theorem reqArg_append (op : BitVec 2) (arg : BitVec 24) : reqArg (op ++ arg) = arg :=
  BitVec.extractLsb'_append_eq_right

/-- A request word is its two fields, so a fact about all request words is one about all pairs of fields. -/
theorem reqOp_append_reqArg (req : Req) : reqOp req ++ reqArg req = req :=
  BitVec.extractLsb'_append_extractLsb' (w := 2) (len := 24)

/-- `zext_24` of a codeword operand (R76). -/
theorem setWidth_codeword (cw : Codeword23) : cw.setWidth 24 = 0#1 ++ cw := BitVec.setWidth_eq_append (by decide)

/-- `zext_24` of an address operand (R76). -/
theorem setWidth_addr (addr : Syndrome) : addr.setWidth 24 = 0#13 ++ addr := BitVec.setWidth_eq_append (by decide)

@[simp] theorem argCodeword_append (b : BitVec 1) (cw : Codeword23) : argCodeword (b ++ cw) = cw :=
  BitVec.extractLsb'_append_eq_right

@[simp] theorem argAddr_append (high : BitVec 13) (addr : Syndrome) : argAddr (high ++ addr) = addr :=
  BitVec.extractLsb'_append_eq_right

@[simp] theorem argWord_eq (word : Codeword24) : argWord word = word := rfl

/-- The reserved bit of a codeword operand is clear exactly when `arg` is the operand under a 0 (R72). -/
theorem codewordReservedSet_eq_false_iff (arg : BitVec 24) :
    codewordReservedSet arg = false ↔ arg = 0#1 ++ argCodeword arg := by
  conv_rhs => lhs; rw [← BitVec.extractLsb'_append_extractLsb' (w := 1) (len := 23) (x := arg)]
  rw [argCodeword, BitVec.append_left_inj, codewordReservedSet, BitVec.getLsbD_eq_extractLsb']
  generalize BitVec.extractLsb' 23 1 arg = b
  revert b; decide

@[simp] theorem codewordReservedSet_zero_append (cw : Codeword23) : codewordReservedSet (0#1 ++ cw) = false := by
  simp [codewordReservedSet_eq_false_iff]

/-- The reserved bits of an address operand are clear exactly when `arg` is the operand under zeros (R72). -/
theorem addrReservedSet_eq_false_iff (arg : BitVec 24) :
    addrReservedSet arg = false ↔ arg = 0#13 ++ argAddr arg := by
  conv_rhs => lhs; rw [← BitVec.extractLsb'_append_extractLsb' (w := 13) (len := 11) (x := arg)]
  rw [argAddr, BitVec.append_left_inj, addrReservedSet, bne_eq_false_iff_eq]
  rfl

@[simp] theorem addrReservedSet_zero_append (addr : Syndrome) : addrReservedSet (0#13 ++ addr) = false := by
  simp [addrReservedSet_eq_false_iff]

theorem append_eq_append_iff {op op' : BitVec 2} {arg arg' : BitVec 24} :
    op ++ arg = op' ++ arg' ↔ op = op' ∧ arg = arg' :=
  ⟨fun h => ⟨by simpa using congrArg reqOp h, by simpa using congrArg reqArg h⟩, fun ⟨h, h'⟩ => h ▸ h' ▸ rfl⟩

/-- What is wrong with a request that decodes to no operation: a reserved bit of its operation is set (R74). -/
def ReservedSet (op : BitVec 2) (arg : BitVec 24) : Prop :=
  (op = 0b00 ∨ op = 0b10) ∧ codewordReservedSet arg = true ∨ op = 0b01 ∧ addrReservedSet arg = true

/-! ## Decoding and encoding -/

theorem decode_encode (i : Instr) : decode (encode i) = .ok i := by
  cases i with
  | syn cw => simp [decode, encode, setWidth_codeword]
  | rom addr => simp [decode, encode, setWidth_addr]
  | dec23 cw => simp [decode, encode, setWidth_codeword]
  | dec24 word => simp [decode, encode]

theorem encode_injective : Function.Injective encode := fun i j h => by
  simpa [decode_encode] using congrArg decode h

theorem decode_of_reservedSet {op : BitVec 2} {arg : BitVec 24} (h : ReservedSet op arg) :
    decode (op ++ arg) = .error .inputRange := by
  obtain ⟨rfl | rfl, hr⟩ | ⟨rfl, hr⟩ := h <;> simp [decode, hr]

theorem reqOp_cases : ∀ op : BitVec 2, op = 0b00#2 ∨ op = 0b01#2 ∨ op = 0b10#2 ∨ op = 0b11#2 := by decide

/-- Everything a decode can answer: the operation whose request word it is, or `InputRange` for a reserved bit. -/
theorem decode_cases (req : Req) :
    (∃ i, req = encode i ∧ decode req = .ok i) ∨
    (ReservedSet (reqOp req) (reqArg req) ∧ decode req = .error .inputRange) := by
  obtain ⟨op, arg, rfl⟩ : ∃ op arg, req = op ++ arg := ⟨_, _, (reqOp_append_reqArg req).symm⟩
  rw [reqOp_append, reqArg_append]
  suffices h : (∃ i, op ++ arg = encode i) ∨ ReservedSet op arg from
    h.imp (fun ⟨i, hi⟩ => ⟨i, hi, hi ▸ decode_encode i⟩) fun hr => ⟨hr, decode_of_reservedSet hr⟩
  obtain rfl | rfl | rfl | rfl := reqOp_cases op
  · cases hr : codewordReservedSet arg with
    | false => exact .inl ⟨.syn _, by rw [encode, setWidth_codeword, ← (codewordReservedSet_eq_false_iff arg).1 hr]⟩
    | true => exact .inr (.inl ⟨.inl rfl, hr⟩)
  · cases hr : addrReservedSet arg with
    | false => exact .inl ⟨.rom _, by rw [encode, setWidth_addr, ← (addrReservedSet_eq_false_iff arg).1 hr]⟩
    | true => exact .inr (.inr ⟨rfl, hr⟩)
  · cases hr : codewordReservedSet arg with
    | false => exact .inl ⟨.dec23 _, by rw [encode, setWidth_codeword, ← (codewordReservedSet_eq_false_iff arg).1 hr]⟩
    | true => exact .inr (.inl ⟨.inr rfl, hr⟩)
  · exact .inl ⟨.dec24 arg, rfl⟩

theorem decode_eq_ok_iff (req : Req) (i : Instr) : decode req = .ok i ↔ req = encode i := by
  refine ⟨fun h => ?_, fun h => h ▸ decode_encode i⟩
  obtain ⟨j, hj, hd⟩ | ⟨-, hd⟩ := decode_cases req <;> rw [hd] at h <;> cases h
  exact hj

/-- Settles O1: `encode` writes the fields `decode` reads, and a request with no reserved bit set is its fields. -/
theorem decodeIffEncode : Obligations.DecodeIffEncode := decode_eq_ok_iff

/-! ## The rows of the match-and-mask list (R72) -/

/-- A row that fixes both bits of `op`, and the bits of `arg` in `argMask` to 0, selects by the two fields. -/
theorem selects_append (name : String) (op op' : BitVec 2) (arg argMask : BitVec 24) :
    OpcodeRow.selects ⟨name, op ++ 0#24, 0b11#2 ++ argMask⟩ (op' ++ arg) = (op' == op && arg &&& argMask == 0#24) := by
  have hop : op' &&& 0b11#2 = op' := BitVec.and_allOnes
  rw [Bool.eq_iff_iff, OpcodeRow.selects, BitVec.and_append, hop, beq_iff_eq, append_eq_append_iff]
  simp

/-- The mask bit of `SYN` and `DEC23` is their reserved bit. -/
theorem and_codewordMask_beq_zero (arg : BitVec 24) : (arg &&& 0x800000#24 == 0#24) = !codewordReservedSet arg := by
  have htwo : 0x800000#24 = BitVec.twoPow 24 23 := rfl
  rw [htwo, BitVec.and_twoPow, codewordReservedSet]
  cases arg.getLsbD 23 <;> rfl

/-- The mask bits of `ROM` are its reserved bits. -/
theorem and_addrMask_beq_zero (arg : BitVec 24) : (arg &&& 0xFFF800#24 == 0#24) = !addrReservedSet arg := by
  have hand : arg &&& 0xFFF800#24 = arg.extractLsb' 11 13 ++ 0#11 := by
    have hmask : 0xFFF800#24 = BitVec.allOnes 13 ++ 0#11 := rfl
    conv_lhs => lhs; rw [← BitVec.extractLsb'_append_extractLsb' (w := 13) (len := 11) (x := arg)]
    rw [hmask, BitVec.and_append, BitVec.and_allOnes, BitVec.and_zero]
  have hzero : 0#24 = 0#13 ++ 0#11 := rfl
  rw [hand, hzero, addrReservedSet, bne, Bool.not_not, Bool.eq_iff_iff, beq_iff_eq, beq_iff_eq,
    BitVec.append_left_inj]
  rfl

/-- The rows read off the fields, as the decoder reads them. -/
theorem forall_opcodeRows (P : String → Bool → Prop) (op : BitVec 2) (arg : BitVec 24) :
    (∀ row ∈ opcodeRows, P row.mnemonic (row.selects (op ++ arg))) ↔
      P "SYN" (op == 0b00 && !codewordReservedSet arg) ∧ P "ROM" (op == 0b01 && !addrReservedSet arg) ∧
      P "DEC23" (op == 0b10 && !codewordReservedSet arg) ∧ P "DEC24" (op == 0b11) := by
  have hrows : opcodeRows =
      [⟨"SYN", 0b00#2 ++ 0#24, 0b11#2 ++ 0x800000#24⟩, ⟨"ROM", 0b01#2 ++ 0#24, 0b11#2 ++ 0xFFF800#24⟩,
       ⟨"DEC23", 0b10#2 ++ 0#24, 0b11#2 ++ 0x800000#24⟩, ⟨"DEC24", 0b11#2 ++ 0#24, 0b11#2 ++ 0#24⟩] := rfl
  simp only [hrows, List.forall_mem_cons, selects_append, and_codewordMask_beq_zero, and_addrMask_beq_zero]
  simp

/-- An operation's request word selects the row of its name and no other. -/
theorem selects_encode (i : Instr) : ∀ row ∈ opcodeRows, row.selects (encode i) = (row.mnemonic == i.mnemonic) := by
  cases i <;> refine (forall_opcodeRows (fun name b => b = (name == _)) _ _).2 ?_ <;>
    simp [Instr.mnemonic, setWidth_codeword, setWidth_addr]

theorem selects_of_reservedSet {op : BitVec 2} {arg : BitVec 24} (h : ReservedSet op arg) :
    ∀ row ∈ opcodeRows, row.selects (op ++ arg) = false := by
  refine (forall_opcodeRows (fun _ b => b = false) _ _).2 ?_
  obtain ⟨rfl | rfl, hr⟩ | ⟨rfl, hr⟩ := h <;> simp [hr]

theorem requestWellFormed_encode (i : Instr) : requestWellFormed (encode i) = true := by
  cases i with
  | syn cw => exact Laws.EncodesLegally.syn cw
  | rom addr => exact Laws.EncodesLegally.rom addr
  | dec23 cw => exact Laws.EncodesLegally.dec23 cw
  | dec24 word => exact Laws.EncodesLegally.dec24 word

/-- Settles O2: the fields of each request word, and the rows selected in the two cases of `decode`. -/
theorem rowsSelectWhatIsDecoded : Obligations.RowsSelectWhatIsDecoded := by
  refine ⟨fun cw => ?_, fun addr => ?_, fun cw => ?_, fun word => ?_, fun req => ?_⟩
  · simp [encode, setWidth_codeword]
  · simp [encode, setWidth_addr]
  · simp [encode, setWidth_codeword]
  · simp [encode]
  · obtain ⟨i, hreq, hd⟩ | ⟨hr, hd⟩ := decode_cases req
    · rw [hd]
      exact ⟨hreq, hreq ▸ selects_encode i⟩
    · rw [hd]
      exact ⟨rfl, reqOp_append_reqArg req ▸ selects_of_reservedSet hr⟩

/-- A request is ill formed exactly when it decodes to no operation (R72, R74). -/
theorem requestWellFormed_eq_false_iff (req : Req) :
    requestWellFormed req = false ↔ decode req = .error .inputRange := by
  obtain ⟨i, rfl, hd⟩ | ⟨hr, hd⟩ := decode_cases req
  · simp [hd, requestWellFormed_encode]
  · refine iff_of_true (List.any_eq_false.2 fun row hrow => ?_) hd
    have hsel := selects_of_reservedSet hr row hrow
    rw [reqOp_append_reqArg] at hsel
    simp [hsel]

/-! ## How many requests are legal (R74) -/

theorem card_bitVec (w : Nat) : Nat.card (BitVec w) = 2 ^ w := by
  rw [← Nat.card_fin (2 ^ w)]
  exact Nat.card_congr BitVec.equivFin.toEquiv

/-- As many requests decode to an operation of one form as there are operations of it. -/
theorem card_decode_range {α : Type} {f : α → Instr} (hf : Function.Injective f) :
    Nat.card { req : Req // ∃ a, decode req = .ok (f a) } = Nat.card α := by
  have hset : { req : Req | ∃ a, decode req = .ok (f a) } = Set.range (encode ∘ f) := by
    ext req
    simp only [decode_eq_ok_iff, Set.mem_ofPred_eq, Set.mem_range, Function.comp_apply, eq_comm (a := req)]
  rw [← Nat.card_range_of_injective (encode_injective.comp hf), ← hset]
  rfl

/-- An operation is one of four names with an operand of that name's width (R72). -/
def Instr.operandEquiv : Instr ≃ (Codeword23 ⊕ Syndrome) ⊕ Codeword23 ⊕ Codeword24 where
  toFun
    | .syn cw => .inl (.inl cw)
    | .rom addr => .inl (.inr addr)
    | .dec23 cw => .inr (.inl cw)
    | .dec24 word => .inr (.inr word)
  invFun
    | .inl (.inl cw) => .syn cw
    | .inl (.inr addr) => .rom addr
    | .inr (.inl cw) => .dec23 cw
    | .inr (.inr word) => .dec24 word
  left_inv i := by cases i <;> rfl
  right_inv o := by obtain (_ | _) | _ | _ := o <;> rfl

theorem card_instr : Nat.card Instr = 2 ^ 23 + 2 ^ 11 + (2 ^ 23 + 2 ^ 24) := by
  rw [Nat.card_congr Instr.operandEquiv, Nat.card_sum, Nat.card_sum, Nat.card_sum,
    card_bitVec, card_bitVec, card_bitVec]

theorem decode_eq_error_iff (req : Req) : decode req = .error .inputRange ↔ ¬ ∃ i, decode req = .ok i := by
  obtain ⟨i, -, hd⟩ | ⟨-, hd⟩ := decode_cases req <;> simp [hd]

/-- The requests refused are those left over of the 2^26 when the operations' request words are taken away. -/
theorem card_decode_error_add_card_instr :
    Nat.card { req : Req // decode req = .error .inputRange } + Nat.card Instr = 2 ^ 26 := by
  classical
  rw [← card_decode_range (f := id) Function.injective_id, ← card_bitVec 26,
    ← Nat.card_congr (Equiv.sumCompl fun req : Req => ∃ i, decode req = .ok i), Nat.card_sum, add_comm]
  simp only [decode_eq_error_iff, id_eq]

/-- A step on an ill-formed request answers it with the error response (R74). -/
theorem step_of_not_requestWellFormed {s : Machine.State} {req : Req} {rest : List Req}
    (hp : s.pending = req :: rest) (hw : requestWellFormed req = false) :
    Machine.step s = .next (Machine.State.answer { s with pending := rest } .inputRange) := by
  simp [Machine.step, Machine.State.takeRequest_cons hp, (requestWellFormed_eq_false_iff req).1 hw,
    Machine.State.raiseInputRange]

/-- Settles O3: an ill-formed request decodes to `InputRange`; the counts, by `encode` being injective. -/
theorem reservedBitsAreRefused : Obligations.ReservedBitsAreRefused := by
  refine ⟨fun s req rest hp hw => step_of_not_requestWellFormed hp hw, ?_, ?_, ?_, ?_, ?_⟩
  · rw [card_decode_range fun _ _ => Instr.syn.inj, card_bitVec]
  · rw [card_decode_range fun _ _ => Instr.rom.inj, card_bitVec]
  · rw [card_decode_range fun _ _ => Instr.dec23.inj, card_bitVec]
  · rw [card_decode_range fun _ _ => Instr.dec24.inj, card_bitVec]
  · have := card_decode_error_add_card_instr
    rw [card_instr] at this
    exact Nat.add_right_cancel (this.trans (by norm_num))

end Sys2Proof

namespace Sys2Proof

/-- Settles O4: each word is the request word of its operation, or has a reserved bit set. -/
theorem sampleWordsDecode : Obligations.SampleWordsDecode := by
  unfold Obligations.SampleWordsDecode
  decide

end Sys2Proof

namespace Sys2Proof.Machine

/-! ## The textual form of requests (R76) -/

theorem readHexLiteral_hexLiteral {k n : Nat} (h : n < 16 ^ (k + 1)) :
    readHexLiteral (hexLiteral (k + 1) n) = some n := by
  have hread := readHexDigits_hexDigits (k + 1) 0 n h
  cases hd : hexDigits (k + 1) n with
  | nil => simpa [hd] using hexDigits_length (k + 1) n
  | cons c cs => simpa [hexLiteral, readHexLiteral, hd] using hread

theorem assemble_of_lt (op : BitVec 2) {n : Nat} (h : n < 2 ^ 24) : assemble op n = some (op ++ BitVec.ofNat 24 n) :=
  if_pos h

/-- A mnemonic, a space and the digits of an operand that fits are read as the request of the operation code and
the widened operand. -/
theorem readRequest_hexLiteral {w : Nat} (name : List Char) (k : Nat) (v : BitVec w) {op : BitVec 2}
    (hspace : name.all (· != ' ') = true) (hop : opOfMnemonic name = some op) (hk : w ≤ 4 * (k + 1)) (hw : w ≤ 24) :
    readRequest (name ++ ' ' :: hexLiteral (k + 1) v.toNat) = some (op ++ v.setWidth 24) := by
  have hspan : (name ++ ' ' :: hexLiteral (k + 1) v.toNat).span (· != ' ') =
      (name, ' ' :: hexLiteral (k + 1) v.toNat) := by
    rw [List.all_eq_true] at hspace
    rw [List.span_eq_takeWhile_dropWhile, List.takeWhile_append_of_pos hspace, List.dropWhile_append_of_pos hspace]
    simp
  have hlit : readHexLiteral (hexLiteral (k + 1) v.toNat) = some v.toNat := by
    refine readHexLiteral_hexLiteral (v.isLt.trans_le ?_)
    calc 2 ^ w ≤ 2 ^ (4 * (k + 1)) := Nat.pow_le_pow_right (by decide) hk
      _ = 16 ^ (k + 1) := Nat.pow_mul 2 4 (k + 1)
  rw [readRequest, hspan]
  simp only [hop, hlit]
  rw [assemble_of_lt op (v.isLt.trans_le (Nat.pow_le_pow_right (by decide) hw)), BitVec.ofNat_toNat]

theorem readRequest_writeRequest (i : Instr) : readRequest (writeRequest i) = some (encode i) := by
  cases i with
  | syn cw => exact readRequest_hexLiteral ['S', 'Y', 'N'] 5 cw rfl rfl (by decide) (by decide)
  | rom addr => exact readRequest_hexLiteral ['R', 'O', 'M'] 2 addr rfl rfl (by decide) (by decide)
  | dec23 cw => exact readRequest_hexLiteral ['D', 'E', 'C', '2', '3'] 5 cw rfl rfl (by decide) (by decide)
  | dec24 word =>
    have h := readRequest_hexLiteral ['D', 'E', 'C', '2', '4'] 5 word rfl rfl (by decide) (by decide)
    rwa [BitVec.setWidth_eq] at h

/-- A literal too wide for a codeword sets the reserved bit. -/
theorem codewordReservedSet_of_le {arg : BitVec 24} (h : 2 ^ 23 ≤ arg.toNat) : codewordReservedSet arg = true := by
  by_contra hr
  have harg := (codewordReservedSet_eq_false_iff arg).1 (by simpa using hr)
  have hlt : arg.toNat < 2 ^ 23 := by
    rw [harg, BitVec.toNat_append]
    simpa using (argCodeword arg).isLt
  exact absurd h (Nat.not_le.2 hlt)

/-- A literal too wide for an address sets a reserved bit. -/
theorem addrReservedSet_of_le {arg : BitVec 24} (h : 2 ^ 11 ≤ arg.toNat) : addrReservedSet arg = true := by
  by_contra hr
  have harg := (addrReservedSet_eq_false_iff arg).1 (by simpa using hr)
  have hlt : arg.toNat < 2 ^ 11 := by
    rw [harg, BitVec.toNat_append]
    simpa using (argAddr arg).isLt
  exact absurd h (Nat.not_le.2 hlt)

/-- A literal of at most 24 bits that sets a reserved bit of its operation is a request that raises `InputRange`. -/
theorem assemble_reservedSet {op : BitVec 2} {n : Nat} (hn : n < 2 ^ 24) (h : ReservedSet op (BitVec.ofNat 24 n)) :
    ∃ req, assemble op n = some req ∧ decode req = .error .inputRange :=
  ⟨_, assemble_of_lt op hn, decode_of_reservedSet h⟩

/-- Settles O5: digits are read back as written, and a wide literal is one not below its operand's bound. -/
theorem writtenRequestsAreRead : Obligations.WrittenRequestsAreRead := by
  have toNat_ofNat {n : Nat} (hn : n < 2 ^ 24) : (BitVec.ofNat 24 n).toNat = n := Nat.mod_eq_of_lt hn
  refine ⟨readRequest_writeRequest, fun op n => rfl, fun n hle hn => ?_, fun n hle hn => ?_, fun n hle hn => ?_⟩
  · exact assemble_reservedSet hn (.inl ⟨.inl rfl, codewordReservedSet_of_le (by rwa [toNat_ofNat hn])⟩)
  · exact assemble_reservedSet hn (.inr ⟨rfl, addrReservedSet_of_le (by rwa [toNat_ofNat hn])⟩)
  · exact assemble_reservedSet hn (.inl ⟨.inr rfl, codewordReservedSet_of_le (by rwa [toNat_ofNat hn])⟩)

end Sys2Proof.Machine

namespace Sys2Proof.Machine

/-! ## The response to a request (R78, R79, R161) -/

/-- `respond` in the decoder's fields. -/
theorem respond_append (op : BitVec 2) (arg : BitVec 24) :
    respond (op ++ arg) =
      if op = 0b00 then
        if codewordReservedSet arg then .inputRange else .ofSyndrome (syndrome (argCodeword arg))
      else if op = 0b01 then
        if addrReservedSet arg then .inputRange else .ofEntry (romRead (argAddr arg))
      else if op = 0b10 then
        if codewordReservedSet arg then .inputRange else .ofDecoded (decode23 (argCodeword arg))
      else .ofDecoded (decode24 arg) := by
  have hop : (op ++ arg).extractLsb 25 24 = op := reqOp_append op arg
  have harg : (op ++ arg).extractLsb 23 0 = arg := reqArg_append op arg
  rw [respond, hop, harg]
  simp only [addrReservedSet, bne_iff_ne]
  rfl

/-- The response to an operation's request word is the one `exec` gives. -/
theorem respond_encode (i : Instr) : respond (encode i) = execResponse i := by
  cases i <;> rw [encode, respond_append] <;> simp [setWidth_codeword, setWidth_addr] <;> rfl

theorem respond_of_reservedSet {op : BitVec 2} {arg : BitVec 24} (h : ReservedSet op arg) :
    respond (op ++ arg) = .inputRange := by
  obtain ⟨rfl | rfl, hr⟩ | ⟨rfl, hr⟩ := h <;> simp [respond_append, hr]

/-- Everything `respond` can answer: an operation's response, or the error response. -/
theorem respond_cases (req : Req) :
    (∃ i, req = encode i ∧ decode req = .ok i ∧ respond req = execResponse i) ∨
    (ReservedSet (reqOp req) (reqArg req) ∧ decode req = .error .inputRange ∧ respond req = .inputRange) := by
  obtain ⟨i, hreq, hd⟩ | ⟨hr, hd⟩ := decode_cases req
  · exact .inl ⟨i, hreq, hd, hreq ▸ respond_encode i⟩
  · exact .inr ⟨hr, hd, reqOp_append_reqArg req ▸ respond_of_reservedSet hr⟩

theorem respond_of_decode_error {req : Req} (h : decode req = .error .inputRange) : respond req = .inputRange := by
  obtain ⟨i, -, hd, -⟩ | ⟨-, -, hresp⟩ := respond_cases req
  · rw [hd] at h; cases h
  · exact hresp

/-- A step answers the next request with `respond` of it (R161). -/
theorem step_of_pending {s : State} {req : Req} {rest : List Req} (hp : s.pending = req :: rest) :
    step s = .next (State.answer { s with pending := rest } (respond req)) := by
  obtain ⟨i, -, hd, hresp⟩ | ⟨-, hd, hresp⟩ := respond_cases req
  · simp [step, State.takeRequest_cons hp, hd, hresp, exec_eq]
  · simp [step, State.takeRequest_cons hp, hd, hresp, State.raiseInputRange]

theorem step_of_pending_nil {s : State} (hp : s.pending = []) : step s = .next s := by
  simp [step, State.takeRequest_nil hp]

/-- Settles O6: the step takes the request away and dispatches on what it decodes to. -/
theorem stepRunsDecodedInstr : Obligations.StepRunsDecodedInstr := by
  intro s req rest i hp hd
  simp [step, State.takeRequest_cons hp, hd]

/-! ## Runs (R79, R80) -/

theorem run_succ_of_step {s t : State} (k : Nat) (h : step s = .next t) :
    core.run (k + 1) s = core.run k t := by
  have hstep : core.step s = .next t := h
  simp only [Host.Core.run, hstep]

theorem run_eq (k : Nat) (s : State) :
    core.run k s =
      .next { pending := s.pending.drop k, responses := s.responses ++ programResult (s.pending.take k) } := by
  induction k generalizing s with
  | zero => simp [Host.Core.run, programResult]
  | succ k ih =>
    cases hp : s.pending with
    | nil =>
      rw [run_succ_of_step k (step_of_pending_nil hp), ih, hp]
      simp
    | cons req rest =>
      rw [run_succ_of_step k (step_of_pending hp), ih]
      simp [programResult]

/-- Settles O10: induction on the steps, each of which answers the next request with `respond`. -/
theorem runAnswersInOrder : Obligations.RunAnswersInOrder :=
  ⟨run_eq, fun _ _ => List.getElem?_map⟩

/-! ## The modules (R65 to R69) -/

/-- Settles O17: the modules are the contracts' functions by their definitions. -/
theorem modulesComputeContracts : Obligations.ModulesComputeContracts := by
  refine ⟨fun _ => rfl, fun _ => rfl, fun _ => rfl, fun _ => rfl, fun word i hi => ?_⟩
  simp [dropParity, hi, Nat.add_comm]

/-! ## The response word (R71, R77, R78) -/

/-- Settles O11: the response of each request word, packed. -/
theorem respondPerOperation : Obligations.RespondPerOperation := by
  refine ⟨fun cw => ?_, fun addr => ?_, fun cw => ?_, fun word => ?_, fun req hw => ?_⟩
  · rw [respond_encode]; rfl
  · rw [respond_encode]; rfl
  · rw [respond_encode]; rfl
  · rw [respond_encode]; rfl
  · rw [respond_of_decode_error ((requestWellFormed_eq_false_iff req).1 hw)]; rfl

@[simp] theorem Response.pack_extract_syn (r : Response) : r.pack.extractLsb' 0 11 = r.syn :=
  BitVec.extractLsb'_append_eq_right

@[simp] theorem Response.pack_extract_mask (r : Response) : r.pack.extractLsb' 11 23 = r.mask := calc
  _ = (BitVec.ofBool r.err ++ r.data ++ r.mask).extractLsb' 0 23 := BitVec.extractLsb'_append_eq_of_le (by decide)
  _ = r.mask := BitVec.extractLsb'_append_eq_right

@[simp] theorem Response.pack_extract_data (r : Response) : r.pack.extractLsb' 34 12 = r.data := calc
  _ = (BitVec.ofBool r.err ++ r.data ++ r.mask).extractLsb' 23 12 := BitVec.extractLsb'_append_eq_of_le (by decide)
  _ = (BitVec.ofBool r.err ++ r.data).extractLsb' 0 12 := BitVec.extractLsb'_append_eq_of_le (by decide)
  _ = r.data := BitVec.extractLsb'_append_eq_right

/-- A word's bit as a word of one bit. -/
theorem extractLsb'_one_eq_ofBool {w : Nat} (v : BitVec w) (i : Nat) :
    v.extractLsb' i 1 = BitVec.ofBool (v.getLsbD i) := by
  rw [BitVec.getLsbD_eq_extractLsb']
  generalize v.extractLsb' i 1 = b
  revert b; decide

@[simp] theorem Response.pack_getLsbD_err (r : Response) : r.pack.getLsbD 46 = r.err := by
  have hbit : BitVec.ofBool (r.pack.getLsbD 46) = BitVec.ofBool r.err := calc
    _ = r.pack.extractLsb' 46 1 := (extractLsb'_one_eq_ofBool _ _).symm
    _ = (BitVec.ofBool r.err ++ r.data ++ r.mask).extractLsb' 35 1 := BitVec.extractLsb'_append_eq_of_le (by decide)
    _ = (BitVec.ofBool r.err ++ r.data).extractLsb' 12 1 := BitVec.extractLsb'_append_eq_of_le (by decide)
    _ = BitVec.ofBool r.err := BitVec.extractLsb'_append_eq_left
  simpa using congrArg (BitVec.getLsbD · 0) hbit

theorem Response.pack_toNat (r : Response) :
    r.pack.toNat =
      (r.err.toNat <<< 46) ||| (r.data.toNat <<< 34) ||| (r.mask.toNat <<< 11) ||| r.syn.toNat := by
  refine (BitVec.toNat_append _ _).trans ?_
  rw [BitVec.toNat_append, BitVec.toNat_append, BitVec.toNat_ofBool]
  simp only [Nat.shiftLeft_or_distrib, ← Nat.shiftLeft_add]

theorem Response.unpack_pack (r : Response) : Response.unpack r.pack = r := by
  simp only [Response.unpack, Response.pack_getLsbD_err, Response.pack_extract_data,
    Response.pack_extract_mask, Response.pack_extract_syn]

/-- Neighbouring fields of a word put together are the field of both, up to the whole word. -/
theorem Response.pack_unpack (w : Rsp) : (Response.unpack w).pack = w := by
  simp only [Response.pack, Response.unpack, ← extractLsb'_one_eq_ofBool]
  rw [BitVec.extractLsb'_append_extractLsb'_eq_extractLsb' (start₂ := 46) (start₁ := 34) (len₁ := 12) rfl,
    BitVec.extractLsb'_append_extractLsb'_eq_extractLsb' (start₂ := 34) (start₁ := 11) (len₁ := 23) rfl,
    BitVec.extractLsb'_append_extractLsb'_eq_extractLsb' (start₂ := 11) (start₁ := 0) (len₁ := 11) rfl,
    BitVec.extractLsb'_eq_self]

/-- Settles O21: the fields read out of the concatenation, and the concatenation of a word's fields. -/
theorem responseWordLayout : Obligations.ResponseWordLayout :=
  ⟨fun r => ⟨r.pack_getLsbD_err, r.pack_extract_data, r.pack_extract_mask, r.pack_extract_syn⟩,
    Response.pack_toNat, Response.unpack_pack, Response.pack_unpack⟩

/-! ## The fields of the data formats (R60, R61, R64) -/

theorem dataField_append_checkField (cw : Codeword23) : dataField cw ++ checkField cw = cw :=
  BitVec.extractLsb'_append_extractLsb' (w := 12) (len := 11)

@[simp] theorem dataField_append (d : DataWord) (check : BitVec 11) : dataField (d ++ check) = d :=
  BitVec.extractLsb'_append_eq_left

@[simp] theorem checkField_append (d : DataWord) (check : BitVec 11) : checkField (d ++ check) = check :=
  BitVec.extractLsb'_append_eq_right

/-- The truncation of `word >> 1` to 23 bits drops nothing: it is bits 23:1. -/
theorem dropParity_eq_extractLsb' (word : Codeword24) : dropParity word = word.extractLsb' 1 23 :=
  BitVec.setWidth_ushiftRight_eq_extractLsb

/-- A field of a field is a field of the word. -/
theorem extractLsb'_extractLsb' {w : Nat} (v : BitVec w) {start len start' len' : Nat} (h : start' + len' ≤ len) :
    (v.extractLsb' start len).extractLsb' start' len' = v.extractLsb' (start + start') len' := by
  refine BitVec.eq_of_getLsbD_eq fun i hi => ?_
  have hlen : start' + i < len := by omega
  simp [hi, hlen, Nat.add_assoc]

theorem setWidth_dataField (cw : Codeword23) : (dataField cw).setWidth 23 = cw >>> 11 :=
  (BitVec.setWidth_eq_append (by decide)).trans (BitVec.ushiftRight_eq_extractLsb'_of_lt (by decide)).symm

theorem setWidth_checkField (cw : Codeword23) : (checkField cw).setWidth 23 = cw &&& 0x7FF := by
  have hmask : (0x7FF : Codeword23) = 0#12 ++ BitVec.allOnes 11 := rfl
  conv_rhs => lhs; rw [← dataField_append_checkField cw]
  rw [hmask, BitVec.and_append, BitVec.and_zero, BitVec.and_allOnes]
  exact BitVec.setWidth_eq_append (by decide)

/-- Bits 23:1 of a 24-bit word, widened again, are the word shifted down by its parity bit. -/
theorem setWidth_dropParity (word : Codeword24) : (dropParity word).setWidth 24 = word >>> 1 := by
  rw [dropParity_eq_extractLsb']
  exact (BitVec.setWidth_eq_append (by decide)).trans (BitVec.ushiftRight_eq_extractLsb'_of_lt (by decide)).symm

theorem withParity_dropParity (word : Codeword24) : withParity (dropParity word) (parityBit word) = word := by
  rw [dropParity_eq_extractLsb', withParity, parityBit, ← extractLsb'_one_eq_ofBool]
  exact BitVec.extractLsb'_append_extractLsb' (w := 23) (len := 1)

/-- Settles O22: the fields are slices of the word, and slices that lie side by side give the word back. -/
theorem formatFields : Obligations.FormatFields := by
  refine ⟨fun cw => ⟨(dataField_append_checkField cw).symm, setWidth_dataField cw, setWidth_checkField cw⟩,
    fun word => ⟨(withParity_dropParity word).symm, setWidth_dropParity word, ?_, ?_, rfl⟩,
    fun d => ⟨BitVec.extractLsb'_append_eq_left, BitVec.extractLsb'_append_eq_right⟩⟩
  · rw [dropParity_eq_extractLsb', dataField, extractLsb'_extractLsb' word (by decide)]
  · rw [dropParity_eq_extractLsb', checkField, extractLsb'_extractLsb' word (by decide)]

end Sys2Proof.Machine

namespace Sys2Proof.Machine

/-! ## The shape of responses (R71, R78, R145) -/

/-- Every word of the listing has weight at most 3: a check of the 2048 constants of R130. -/
theorem romWords_all_popcount_le : romWords.all (popcount · ≤ Config.T) = true := by decide +kernel

theorem popcount_le_of_mem_romWords {e : CorrectionEntry} (he : e ∈ romWords) : popcount e ≤ Config.T :=
  of_decide_eq_true (List.all_eq_true.1 romWords_all_popcount_le e he)

theorem popcount_romRead_le (s : Syndrome) : popcount (romRead s) ≤ Config.T :=
  popcount_le_of_mem_romWords (romRead_mem s)

/-- The three ways a response has its shape: an error, a syndrome alone, or data and a light mask. -/
theorem Response.shape_iff (r : Response) :
    r.Shape ↔ r = .inputRange ∨ (∃ s, r = .ofSyndrome s) ∨ ∃ d, popcount d.mask ≤ Config.T ∧ r = .ofDecoded d := by
  obtain ⟨err, data, mask, syn⟩ := r
  constructor
  · rintro ⟨herr, hsyn, hmask⟩
    cases err with
    | true =>
      obtain ⟨rfl, rfl, rfl⟩ := herr rfl
      exact .inl rfl
    | false =>
      by_cases hs : syn = 0
      · exact .inr (.inr ⟨⟨data, mask⟩, hmask, by rw [hs]; rfl⟩)
      · obtain ⟨rfl, rfl⟩ := hsyn hs
        exact .inr (.inl ⟨syn, rfl⟩)
  · have hzero : popcount (0 : CorrectionEntry) ≤ Config.T := by decide
    rintro (h | ⟨s, h⟩ | ⟨d, hd, h⟩) <;> cases h
    · exact ⟨fun _ => ⟨rfl, rfl, rfl⟩, fun _ => ⟨rfl, rfl⟩, hzero⟩
    · exact ⟨nofun, fun _ => ⟨rfl, rfl⟩, hzero⟩
    · exact ⟨nofun, fun h => absurd rfl h, hd⟩

theorem execResponse_shape (i : Instr) : (execResponse i).Shape := by
  rw [Response.shape_iff]
  cases i with
  | syn cw => exact .inr (.inl ⟨_, rfl⟩)
  | rom addr => exact .inr (.inr ⟨⟨0, romRead addr⟩, popcount_romRead_le addr, rfl⟩)
  | dec23 cw => exact .inr (.inr ⟨decode23 cw, popcount_romRead_le _, rfl⟩)
  | dec24 word => exact .inr (.inr ⟨decode24 word, popcount_romRead_le _, rfl⟩)

theorem respond_shape (req : Req) : (respond req).Shape := by
  obtain ⟨i, -, -, hresp⟩ | ⟨-, -, hresp⟩ := respond_cases req <;> rw [hresp]
  · exact execResponse_shape i
  · exact (Response.shape_iff _).2 (.inl rfl)

theorem State.Inv.answer {s : State} (hs : s.Inv) {r : Response} (hr : r.Shape) : (s.answer r).Inv := by
  intro r' hr'
  obtain h | h := List.mem_append.1 hr'
  · exact hs r' h
  · rwa [List.mem_singleton.1 h]

/-- Settles O18: a step adds at most one response, `respond` of a request, and that has the shape because every word
of the table is light. -/
theorem stepKeepsInv : Obligations.StepKeepsInv := by
  intro s t hs ht
  cases hp : s.pending with
  | nil =>
    rw [step_of_pending_nil hp] at ht
    cases ht
    exact hs
  | cons req rest =>
    rw [step_of_pending hp] at ht
    cases ht
    exact State.Inv.answer (s := { s with pending := rest }) hs (respond_shape req)

end Sys2Proof.Machine

namespace Sys2Proof.Machine

/-! ## The syndrome is the unrolled form's and linear (R92, R95, R102) -/

theorem getLsbD_unrolledStep_self {i : Nat} (v : Codeword23) (hi : 11 ≤ i) (hi' : i ≤ 22) :
    (unrolledStep v i).getLsbD i = false := by
  cases hv : v.getLsbD i with
  | false => rwa [unrolledStep_clear hv]
  | true =>
    have hG : Config.G.getLsbD 11 = true := by decide
    rw [unrolledStep_set hv, BitVec.getLsbD_xor, hv, getLsbD_generatorAt hi' hi, Nat.add_sub_cancel_left, hG]
    simp

theorem getLsbD_unrolledStep_of_lt {i j : Nat} (v : Codeword23) (hi : 11 ≤ i) (hi' : i ≤ 22) (hj : i < j) :
    (unrolledStep v i).getLsbD j = v.getLsbD j := by
  cases hv : v.getLsbD i with
  | false => rw [unrolledStep_clear hv]
  | true =>
    rw [unrolledStep_set hv, BitVec.getLsbD_xor, getLsbD_generatorAt hi' hi,
      BitVec.getLsbD_of_ge Config.G _ (by omega), Bool.and_false, Bool.xor_false]

/-- After n steps the n highest bits are clear. -/
theorem getLsbD_unrolledValue (cw : Codeword23) {n j : Nat} (hn : n ≤ 12) (hj : 23 - n ≤ j) :
    (unrolledValue cw n).getLsbD j = false := by
  induction n generalizing j with
  | zero => exact BitVec.getLsbD_of_ge cw j hj
  | succ n ih =>
    rw [unrolledValue]
    obtain rfl | hlt : 22 - n = j ∨ 22 - n < j := by omega
    · exact getLsbD_unrolledStep_self _ (by omega) (by omega)
    · rw [getLsbD_unrolledStep_of_lt _ (by omega) (by omega) hlt]
      exact ih (by omega) (by omega)

/-- The loop's test is whether a bit at 11 or above is set. -/
theorem and_highMask_eq_zero_iff (v : Codeword23) : v &&& highMask = 0 ↔ ∀ j, 11 ≤ j → v.getLsbD j = false := by
  have hmask : ∀ j, j < 23 → highMask.getLsbD j = decide (11 ≤ j) := by decide
  constructor
  · intro h j hj
    by_cases hj' : j < 23
    · simpa [hmask j hj', hj] using congrArg (BitVec.getLsbD · j) h
    · exact BitVec.getLsbD_of_ge v j (by omega)
  · intro h
    refine BitVec.eq_of_getLsbD_eq fun j hj => ?_
    rw [BitVec.getLsbD_and, hmask j hj]
    by_cases hj' : 11 ≤ j <;> simp [hj', h]

/-- The inner loop stops at i when i is set, no bit above it is, and the probe starts at or above it. -/
theorem alignProbe_eq {v : Codeword23} {i p : Nat} (hi : v.getLsbD i = true) (hp : i ≤ p)
    (hclear : ∀ j, i < j → v.getLsbD j = false) : alignProbe v p = i := by
  obtain ⟨hset, hle⟩ := getLsbD_alignProbe hp hi
  by_contra hne
  have hzero := hclear _ (Nat.lt_of_le_of_ne hle (Ne.symm hne))
  exact Bool.noConfusion (hset.symm.trans hzero)

/-- The loop skips the steps of the unrolled form that change nothing: started on the value after n steps, with the
probe not below the next step's bit and fuel for the k steps left, it ends with the value after all of them. -/
theorem reduce_unrolledValue (cw : Codeword23) (k : Nat) {n fuel p : Nat} (hn : n + k = 12) (hfuel : k ≤ fuel)
    (hp : 22 - n ≤ p) : reduce fuel (unrolledValue cw n) p = unrolledValue cw 12 := by
  induction k generalizing n fuel p with
  | zero =>
    obtain rfl : n = 12 := hn
    exact reduce_done _ _ ((and_highMask_eq_zero_iff _).2 fun j hj => getLsbD_unrolledValue cw le_rfl hj)
  | succ k ih =>
    cases hbit : (unrolledValue cw n).getLsbD (22 - n) with
    | false =>
      have hstep : unrolledValue cw (n + 1) = unrolledValue cw n := unrolledStep_clear hbit
      rw [← hstep]
      exact ih (by omega) (by omega) (by omega)
    | true =>
      have hstep : unrolledValue cw (n + 1) = unrolledValue cw n ^^^ generatorAt (22 - n) := unrolledStep_set hbit
      have hrun : unrolledValue cw n &&& highMask ≠ 0 := fun h => by
        rw [(and_highMask_eq_zero_iff _).1 h _ (by omega)] at hbit
        cases hbit
      obtain ⟨fuel, rfl⟩ := Nat.exists_eq_add_of_lt (Nat.lt_of_lt_of_le k.succ_pos hfuel)
      have halign : alignProbe (unrolledValue cw n) p = 22 - n :=
        alignProbe_eq hbit hp fun j hj => getLsbD_unrolledValue cw (by omega) (by omega)
      rw [Nat.zero_add, reduce_step _ _ hrun, halign, ← hstep]
      exact ih (by omega) (by omega) (by omega)

theorem syndrome_eq_syndromeUnrolled (cw : Codeword23) : syndrome cw = syndromeUnrolled cw :=
  congrArg (BitVec.extractLsb' 0 11) (reduce_unrolledValue cw 12 (n := 0) rfl le_rfl le_rfl)

/-- The syndrome is linear (R95), as every step of the unrolled form is. -/
theorem syndrome_xor (a b : Codeword23) : syndrome (a ^^^ b) = syndrome a ^^^ syndrome b := by
  simp only [syndrome_eq_syndromeUnrolled, syndromeUnrolled, unrolledValue_xor, BitVec.extractLsb'_xor]

/-- Check bits are a syndrome themselves (R96). -/
@[simp] theorem syndrome_setWidth (s : Syndrome) : syndrome (s.setWidth 23) = s := by
  have hhigh : s.setWidth 23 &&& highMask = 0 :=
    (and_highMask_eq_zero_iff _).2 fun j hj => by simp [BitVec.getLsbD_of_ge s j hj]
  rw [syndrome, reduce_done _ _ hhigh, BitVec.extractLsb'_setWidth_of_le (by decide), BitVec.extractLsb'_eq_self]

/-! ## The encoding helper (R150) -/

theorem enc_eq_xor (d : DataWord) :
    enc d = (d.setWidth 23 <<< Config.C) ^^^ (syndrome (d.setWidth 23 <<< Config.C)).setWidth 23 := by
  rw [enc]
  generalize syndrome (d.setWidth 23 <<< Config.C) = check
  refine BitVec.eq_of_getLsbD_eq fun i hi => ?_
  rw [BitVec.getLsbD_append]
  by_cases hlow : i < 11
  · simp [hi, hlow]
  · simp [hi, hlow, BitVec.getLsbD_of_ge check i (by omega)]

@[simp] theorem syndrome_enc (d : DataWord) : syndrome (enc d) = 0 := by
  rw [enc_eq_xor, syndrome_xor, syndrome_setWidth]
  exact BitVec.xor_self

@[simp] theorem dataField_enc (d : DataWord) : dataField (enc d) = d := dataField_append d _

theorem dataOfCorrected_eq_dataField (c : Codeword23) : dataOfCorrected c = dataField c :=
  BitVec.setWidth_ushiftRight_eq_extractLsb

end Sys2Proof.Machine

namespace Sys2Proof.Machine

/-! ## The table holds every light pattern (R113, R116, R117) -/

/-- A number is in the list of its own weight. -/
theorem mem_numbersOfWeight (n : Nat) {m : Nat} (hm : m < 2 ^ n) :
    m ∈ numbersOfWeight n ((List.range n).countP fun i => m.testBit i) := by
  induction n generalizing m with
  | zero => simp_all [numbersOfWeight]
  | succ n ih =>
    rw [List.range_succ, List.countP_append, List.countP_singleton]
    cases htop : m.testBit n with
    | false =>
      have hlt : m < 2 ^ n := Nat.lt_pow_two_of_testBit m fun i hi => by
        obtain rfl | hi := Nat.eq_or_lt_of_le hi
        · exact htop
        · exact Nat.testBit_lt_two_pow (hm.trans_le (Nat.pow_le_pow_right (by decide) hi))
      have hmem := ih hlt
      cases hw : (List.range n).countP fun i => m.testBit i with
      | zero => simpa [numbersOfWeight, hw] using hmem
      | succ w => simpa [numbersOfWeight, hw] using .inl (hw ▸ hmem)
    | true =>
      have hle : 2 ^ n ≤ m := Nat.ge_two_pow_of_testBit htop
      obtain ⟨m, rfl⟩ := Nat.exists_eq_add_of_le hle
      have hlt : m < 2 ^ n := by rw [Nat.pow_succ] at hm; omega
      have hlow : (List.range n).countP (fun i => (2 ^ n + m).testBit i) =
          (List.range n).countP fun i => m.testBit i :=
        List.countP_congr fun i hi => by rw [Nat.testBit_two_pow_add_gt (List.mem_range.1 hi)]
      simp [numbersOfWeight, hlow, ih hlt]

theorem mem_candidates_of_popcount_le {e : CorrectionEntry} (he : popcount e ≤ Config.T) : e ∈ candidates := by
  refine List.mem_flatMap.2 ⟨popcount e, List.mem_range.2 (Nat.lt_succ_of_le he), ?_⟩
  exact List.mem_map.2 ⟨e.toNat, mem_numbersOfWeight 23 e.isLt, by simp⟩

theorem candidates_length : candidates.length = 2048 := by decide +kernel

/-- The listing's words have the syndromes 0, 1, .., 2047 in order: a check of the 2048 constants of R130. -/
theorem romWords_map_syndrome : romWords.map syndrome = (List.range Config.NSYN).map (BitVec.ofNat 11) := by
  decide +kernel

theorem syndrome_romRead (s : Syndrome) : syndrome (romRead s) = s := by
  have hs : s.toNat < Config.NSYN := s.isLt
  have h := congrArg (·[s.toNat]?) romWords_map_syndrome
  simpa [getElem?_romWords, List.getElem?_range hs] using h

theorem romWords_nodup : romWords.Nodup := by
  refine List.Nodup.of_map syndrome ?_
  rw [romWords_map_syndrome]
  refine List.nodup_range.map_on fun a ha b hb hab => ?_
  rw [List.mem_range] at ha hb
  have h := congrArg BitVec.toNat hab
  rwa [BitVec.toNat_ofNat, BitVec.toNat_ofNat, Nat.mod_eq_of_lt ha, Nat.mod_eq_of_lt hb] at h

/-- The listing is the candidates in another order: its 2048 words are different and all light, and there are no
more candidates than that. -/
theorem romWords_perm_candidates : romWords.Perm candidates := by
  have hsub : romWords ⊆ candidates := fun e he =>
    mem_candidates_of_popcount_le (popcount_le_of_mem_romWords he)
  exact (romWords_nodup.subperm hsub).perm_of_length_le (by rw [candidates_length, romWords_length])

theorem exists_romRead_of_mem {e : CorrectionEntry} (he : e ∈ romWords) : ∃ s, romRead s = e := by
  obtain ⟨n, hn, rfl⟩ := List.getElem_of_mem he
  have hn' : n < 2 ^ 11 := by rwa [romWords_length] at hn
  have h := getElem?_romWords (BitVec.ofNat 11 n)
  rw [BitVec.toNat_ofNat, Nat.mod_eq_of_lt hn', List.getElem?_eq_getElem hn] at h
  exact ⟨_, (Option.some.inj h).symm⟩

/-- Every light pattern is the entry at its syndrome (R117). -/
theorem romRead_syndrome {e : CorrectionEntry} (he : popcount e ≤ Config.T) : romRead (syndrome e) = e := by
  obtain ⟨s, rfl⟩ := exists_romRead_of_mem (romWords_perm_candidates.mem_iff.2 (mem_candidates_of_popcount_le he))
  rw [syndrome_romRead]

/-! ## Decoding a word near a codeword (R146), and the shape of responses is exact -/

/-- At most three errors on a codeword are found and undone. -/
theorem decode23_enc_xor (d : DataWord) {e : Codeword23} (he : popcount e ≤ Config.T) :
    decode23 (enc d ^^^ e) = ⟨d, e⟩ := by
  have hs : syndrome (enc d ^^^ e) = syndrome e := by
    rw [syndrome_xor, syndrome_enc]
    exact BitVec.zero_xor
  simp only [decode23, hs, romRead_syndrome he, BitVec.xor_assoc, BitVec.xor_self, BitVec.xor_zero,
    dataOfCorrected_eq_dataField, dataField_enc]

theorem exists_respond_of_shape {r : Response} (hr : r.Shape) : ∃ req, respond req = r := by
  obtain rfl | ⟨s, rfl⟩ | ⟨d, hd, rfl⟩ := (Response.shape_iff r).1 hr
  · exact ⟨0b00#2 ++ 0x800000#24, respond_of_reservedSet (.inl ⟨.inl rfl, rfl⟩)⟩
  · refine ⟨encode (.syn (s.setWidth 23)), (respond_encode _).trans ?_⟩
    exact congrArg Response.ofSyndrome (syndrome_setWidth s)
  · refine ⟨encode (.dec23 (enc d.data ^^^ d.mask)), (respond_encode _).trans ?_⟩
    exact congrArg Response.ofDecoded (decode23_enc_xor d.data hd)

/-- Settles O20: `SYN` of a syndrome's own bits gives that syndrome, and `DEC23` of a codeword with a light mask's
bits flipped gives that mask and the codeword's data. -/
theorem shapeIsExactlyRespond : Obligations.ShapeIsExactlyRespond :=
  fun _ => ⟨exists_respond_of_shape, fun ⟨req, h⟩ => h ▸ respond_shape req⟩

end Sys2Proof.Machine

namespace Sys2Proof.Machine

/-! ## The shifted generator and the probe (R101, R102) -/

theorem generatorAt_toNat {p : Nat} (hp : p ≤ 22) : (generatorAt p).toNat = Config.G.toNat * 2 ^ (p - 11) := by
  have hfits : Config.G.toNat * 2 ^ (p - 11) < 2 ^ 23 := calc
    _ ≤ Config.G.toNat * 2 ^ 11 := Nat.mul_le_mul_left _ (Nat.pow_le_pow_right (by decide) (by omega))
    _ < 2 ^ 23 := by decide
  have hG : Config.G.toNat < 2 ^ 23 := by decide
  rw [generatorAt, BitVec.toNat_shiftLeft, BitVec.toNat_setWidth, Nat.mod_eq_of_lt hG, Nat.shiftLeft_eq,
    Nat.mod_eq_of_lt hfits]

/-- Settles O32: bit j of the shifted generator is bit j + 11 - p of `G`, whose highest bit is bit 11. -/
theorem shiftedGeneratorFits : Obligations.ShiftedGeneratorFits := by
  have hG : Config.G.getLsbD 11 = true := by decide
  refine fun p hp hp' => ⟨?_, fun j hj => ?_, generatorAt_toNat hp'⟩
  · rw [getLsbD_generatorAt hp' hp, Nat.add_sub_cancel_left, hG]
    simp
  · rw [getLsbD_generatorAt hp' hp, BitVec.getLsbD_of_ge Config.G _ (by omega), Bool.and_false]

/-- Settles O31: the loop goes on when some bit at 11 or above is set, so the probe stops at such a bit; the XOR
there is a step of the unrolled form, which clears that bit and leaves the bits above it. -/
theorem probeStaysAboveSetBits : Obligations.ProbeStaysAboveSetBits := by
  refine ⟨fun cw j _ hj => Nat.le_of_lt_succ (BitVec.lt_of_getLsbD hj), fun v p hp hinv hrun => ?_⟩
  obtain ⟨i, hi, hset⟩ : ∃ i, 11 ≤ i ∧ v.getLsbD i = true := by
    by_contra hnone
    exact hrun ((and_highMask_eq_zero_iff v).2 fun j hj => Bool.eq_false_iff.2 fun hb => hnone ⟨j, hj, hb⟩)
  obtain ⟨htop, hle⟩ := getLsbD_alignProbe (hinv i hi hset) hset
  have hlow : 11 ≤ alignProbe v p := hi.trans hle
  have hhigh : alignProbe v p ≤ 22 := (alignProbe_le v p).trans hp
  have habove : ∀ j, alignProbe v p < j → v.getLsbD j = false := fun j hj => by
    by_cases hjp : j ≤ p
    · exact getLsbD_of_alignProbe_lt hj hjp
    · exact Bool.eq_false_iff.2 fun hb => hjp (hinv j (by omega) hb)
  refine ⟨hlow, alignProbe_le v p, htop, habove, fun j hj => ?_⟩
  rw [← unrolledStep_set htop]
  obtain hj | hj := Nat.eq_or_lt_of_le hj
  · rw [← hj]
    exact getLsbD_unrolledStep_self v hlow hhigh
  · rw [getLsbD_unrolledStep_of_lt v hlow hhigh hj, habove j hj]

/-! ## The unrolled form, linearity and small words (R92, R95, R96) -/

/-- Settles O24: the loop skips only the steps that change nothing. -/
theorem unrolledFormAgrees : Obligations.UnrolledFormAgrees :=
  ⟨fun cw => (syndrome_eq_syndromeUnrolled cw).symm,
    fun v _ hi hi' => ⟨getLsbD_unrolledStep_self v hi hi', fun _ hj => getLsbD_unrolledStep_of_lt v hi hi' hj⟩,
    fun cw _ hn _ hj => getLsbD_unrolledValue cw hn hj⟩

@[simp] theorem syndrome_zero : syndrome 0 = 0 := syndrome_setWidth 0

/-- Settles O27: every step of the unrolled form is linear. -/
theorem syndromeIsLinear : Obligations.SyndromeIsLinear := ⟨syndrome_xor, syndrome_zero⟩

/-- The loop's test fails exactly for the numbers below 2^11. -/
theorem and_highMask_eq_zero_iff_toNat_lt (v : Codeword23) : v &&& highMask = 0 ↔ v.toNat < 2048 := by
  rw [and_highMask_eq_zero_iff]
  exact ⟨fun h => Nat.lt_pow_two_of_testBit (n := 11) _ h,
    fun h j hj => Nat.testBit_lt_two_pow (h.trans_le (Nat.pow_le_pow_right (n := 2) (by decide) hj))⟩

theorem syndrome_of_toNat_lt {cw : Codeword23} (h : cw.toNat < 2048) : syndrome cw = cw.extractLsb' 0 11 := by
  rw [syndrome, reduce_done _ _ ((and_highMask_eq_zero_iff_toNat_lt cw).2 h)]

/-- The data bits in their place, as `enc` writes them. -/
theorem setWidth_shiftLeft_eq_append (d : DataWord) : d.setWidth 23 <<< Config.C = d ++ 0#11 := by
  simpa using (BitVec.setWidth_append_eq_shiftLeft_setWidth_or (w'' := 23) (b := d) (b' := 0#11)).symm

/-- The check bits enter the syndrome unchanged (R96). -/
theorem syndrome_append (d : DataWord) (check : BitVec 11) :
    syndrome (d ++ check) = syndrome (d ++ 0#11) ^^^ check := by
  have hcheck : check.setWidth 23 = 0#12 ++ check := BitVec.setWidth_eq_append (by decide)
  have hsplit : d ++ check = (d ++ 0#11) ^^^ check.setWidth 23 := by
    rw [hcheck, BitVec.xor_append, BitVec.xor_zero, BitVec.zero_xor]
  rw [hsplit, syndrome_xor, syndrome_setWidth]

/-- Clearing the check bits leaves the data bits. -/
theorem and_dataMask (cw : Codeword23) : cw &&& 0x7FF800 = dataField cw ++ 0#11 := by
  have hmask : (0x7FF800 : Codeword23) = BitVec.allOnes 12 ++ 0#11 := rfl
  conv_lhs => lhs; rw [← dataField_append_checkField cw]
  rw [hmask, BitVec.and_append, BitVec.and_allOnes, BitVec.and_zero]

/-- Settles O28: a small word fails the loop's test at once, and a word is its data bits XOR its check bits. -/
theorem checkBitsPassThrough : Obligations.CheckBitsPassThrough := by
  refine ⟨fun cw h => ⟨?_, syndrome_of_toNat_lt h⟩, syndrome_setWidth, fun cw => ?_⟩
  · exact reduceTrace_done 12 22 ((and_highMask_eq_zero_iff_toNat_lt cw).2 h)
  · rw [and_dataMask]
    conv_lhs => rw [← dataField_append_checkField cw]
    exact syndrome_append _ _

/-! ## Valid codewords (R99) -/

theorem validCodeword_iff (c : Codeword23) : validCodeword c = true ↔ syndrome c = 0 := beq_iff_eq

@[simp] theorem validCodeword_enc (d : DataWord) : validCodeword (enc d) = true := by
  rw [validCodeword_iff, syndrome_enc]

/-- One value of the check bits makes the syndrome 0: the one `enc` writes. -/
theorem validCodeword_iff_eq_enc (c : Codeword23) : validCodeword c = true ↔ c = enc (dataField c) := by
  refine ⟨fun h => ?_, fun h => h ▸ validCodeword_enc _⟩
  rw [validCodeword_iff, ← dataField_append_checkField c, syndrome_append] at h
  rw [enc, setWidth_shiftLeft_eq_append, BitVec.xor_eq_zero_iff.1 h, dataField_append_checkField]

theorem enc_injective : Function.Injective enc := fun d d' h => by
  simpa using congrArg dataField h

theorem card_validCodeword : Nat.card { c : Codeword23 // validCodeword c = true } = 4096 := by
  have hset : { c : Codeword23 | validCodeword c = true } = Set.range enc := by
    ext c
    exact ⟨fun h => ⟨_, ((validCodeword_iff_eq_enc c).1 h).symm⟩, fun ⟨d, h⟩ => h ▸ validCodeword_enc d⟩
  calc Nat.card { c : Codeword23 | validCodeword c = true }
    _ = Nat.card DataWord := by rw [hset, Nat.card_range_of_injective enc_injective]
    _ = 4096 := card_bitVec 12

/-- Settles O30: the valid codewords are the range of `enc`, which is injective since it keeps the data. -/
theorem validCodewordsAreEncodings : Obligations.ValidCodewordsAreEncodings := by
  refine ⟨validCodeword_iff, card_validCodeword, fun d c => ⟨?_, ?_⟩⟩
  · rintro ⟨hvalid, rfl⟩
    exact (validCodeword_iff_eq_enc c).1 hvalid
  · rintro rfl
    exact ⟨validCodeword_enc d, dataField_enc d⟩

end Sys2Proof.Machine

namespace Sys2Proof.Machine

/-! ## The column form (R94) -/

/-- A property that XOR keeps holds of every word when it holds of 0 and of the single bits. -/
theorem codeword_xor_induction {P : Codeword23 → Prop} (zero : P 0) (bit : ∀ i < 23, P (1#23 <<< i))
    (xor : ∀ a b, P a → P b → P (a ^^^ b)) (v : Codeword23) : P v := by
  suffices h : ∀ n ≤ 23, ∀ v : Codeword23, (∀ j, n ≤ j → v.getLsbD j = false) → P v from
    h 23 le_rfl v fun j hj => BitVec.getLsbD_of_ge v j hj
  intro n
  induction n with
  | zero =>
    intro _ v hv
    obtain rfl : v = 0 := BitVec.eq_of_getLsbD_eq fun j _ => by simpa using hv j j.zero_le
    exact zero
  | succ n ih =>
    intro hn v hv
    cases hbit : v.getLsbD n with
    | false =>
      refine ih (by omega) v fun j hj => ?_
      obtain rfl | hj := Nat.eq_or_lt_of_le hj
      · exact hbit
      · exact hv j hj
    | true =>
      have hrest : P (v ^^^ 1#23 <<< n) := by
        refine ih (by omega) _ fun j hj => ?_
        rw [← BitVec.twoPow_eq, BitVec.getLsbD_xor, BitVec.getLsbD_twoPow]
        obtain rfl | hj := Nat.eq_or_lt_of_le hj
        · simp [hbit, Nat.lt_of_succ_le hn]
        · simp [hv j hj, hj.ne]
      have hv' : v = (v ^^^ 1#23 <<< n) ^^^ 1#23 <<< n := by
        rw [BitVec.xor_assoc, BitVec.xor_self, BitVec.xor_zero]
      rw [hv']
      exact xor _ _ hrest (bit n (by omega))

/-- Folding two families together is folding each, for an operation like XOR. -/
theorem foldl_op_op {α β : Type} {op : β → β → β} (hop : ∀ a b c d, op (op a b) (op c d) = op (op a c) (op b d))
    (f g : α → β) (l : List α) (a b : β) :
    l.foldl (fun acc x => op acc (op (f x) (g x))) (op a b) =
      op (l.foldl (fun acc x => op acc (f x)) a) (l.foldl (fun acc x => op acc (g x)) b) := by
  induction l generalizing a b with
  | nil => rfl
  | cons x l ih => rw [List.foldl_cons, List.foldl_cons, List.foldl_cons, hop, ih]

theorem syndromeByColumns_xor (a b : Codeword23) :
    syndromeByColumns (a ^^^ b) = syndromeByColumns a ^^^ syndromeByColumns b := by
  have hterm (x : Syndrome × Nat) : (if (a ^^^ b).getLsbD x.2 then x.1 else 0) =
      (if a.getLsbD x.2 then x.1 else 0) ^^^ (if b.getLsbD x.2 then x.1 else 0) := by
    rw [BitVec.getLsbD_xor]
    cases a.getLsbD x.2 <;> cases b.getLsbD x.2 <;> simp
  have hfold := foldl_op_op (op := fun s s' : Syndrome => s ^^^ s') (fun _ _ _ _ => by ac_rfl)
    (fun x => if a.getLsbD x.2 then x.1 else 0) (fun x => if b.getLsbD x.2 then x.1 else 0) columns.zipIdx 0 0
  simp only [syndromeByColumns, List.foldl_map, hterm]
  rwa [BitVec.xor_self] at hfold

theorem syndromeBit_xor (a b : Codeword23) (j : Nat) :
    syndromeBit (a ^^^ b) j = xor (syndromeBit a j) (syndromeBit b j) := by
  simp only [syndromeBit, BitVec.getLsbD_xor]
  exact foldl_op_op (op := xor) (by decide) (a.getLsbD ·) (b.getLsbD ·) _ false false

/-- The columns are the syndromes of the single bits: R94's first table. -/
theorem columns_eq_syndrome : ∀ i < 23, columns[i]? = some (syndrome (1#23 <<< i)) := by decide +kernel

theorem syndromeByColumns_eq (cw : Codeword23) : syndromeByColumns cw = syndrome cw := by
  induction cw using codeword_xor_induction with
  | zero => decide +kernel
  | bit i hi => revert i; decide +kernel
  | xor a b ha hb => rw [syndromeByColumns_xor, syndrome_xor, ha, hb]

theorem getLsbD_syndrome_eq_syndromeBit (cw : Codeword23) : ∀ j < 11, (syndrome cw).getLsbD j = syndromeBit cw j := by
  induction cw using codeword_xor_induction with
  | zero => decide +kernel
  | bit i hi => revert i; decide +kernel
  | xor a b ha hb =>
    intro j hj
    rw [syndrome_xor, BitVec.getLsbD_xor, syndromeBit_xor, ha j hj, hb j hj]

/-- Settles O26: both forms are linear, as the syndrome is, so it is enough that they agree on the single bits. -/
theorem columnFormAgrees : Obligations.ColumnFormAgrees :=
  ⟨rfl, columns_eq_syndrome, syndromeByColumns_eq, getLsbD_syndrome_eq_syndromeBit, by decide⟩

end Sys2Proof.Machine

namespace Sys2Proof.Machine

/-! ## The loop's iterations are the steps that perform their XOR (R97) -/

theorem quotientBit_sub (cw : Codeword23) {m : Nat} (hm : m ≤ 22) :
    quotientBit cw (22 - m) = (unrolledValue cw m).getLsbD (22 - m) := by
  rw [quotientBit, Nat.sub_sub_self hm]

/-- After all twelve steps the loop's test fails. -/
theorem and_highMask_unrolledValue (cw : Codeword23) : unrolledValue cw 12 &&& highMask = 0 :=
  (and_highMask_eq_zero_iff _).2 fun _ hj => getLsbD_unrolledValue cw le_rfl hj

/-- The trace has an entry for each of the k steps left that performs its XOR, in the order of the steps. -/
theorem reduceTrace_unrolledValue (cw : Codeword23) (k : Nat) {n fuel p : Nat} (hn : n + k = 12) (hfuel : k ≤ fuel)
    (hp : 22 - n ≤ p) : reduceTrace fuel (unrolledValue cw n) p =
      ((List.range' n k).filter fun m => quotientBit cw (22 - m)).map fun m => (unrolledValue cw m, 22 - m) := by
  induction k generalizing n fuel p with
  | zero =>
    obtain rfl : n = 12 := hn
    exact reduceTrace_done _ _ (and_highMask_unrolledValue cw)
  | succ k ih =>
    have hquot := quotientBit_sub cw (m := n) (by omega)
    rw [List.range'_succ]
    cases hbit : (unrolledValue cw n).getLsbD (22 - n) with
    | false =>
      have hstep : unrolledValue cw (n + 1) = unrolledValue cw n := unrolledStep_clear hbit
      rw [List.filter_cons_of_neg (by simp [hquot, hbit]), ← hstep]
      exact ih (by omega) (by omega) (by omega)
    | true =>
      have hstep : unrolledValue cw (n + 1) = unrolledValue cw n ^^^ generatorAt (22 - n) := unrolledStep_set hbit
      have hrun : unrolledValue cw n &&& highMask ≠ 0 := fun h => by
        rw [(and_highMask_eq_zero_iff _).1 h _ (by omega)] at hbit
        cases hbit
      obtain ⟨fuel, rfl⟩ := Nat.exists_eq_add_of_le' (Nat.le_of_add_left_le hfuel)
      have halign : alignProbe (unrolledValue cw n) p = 22 - n :=
        alignProbe_eq hbit hp fun j hj => getLsbD_unrolledValue cw (by omega) (by omega)
      rw [List.filter_cons_of_pos (by simp [hquot, hbit]), List.map_cons, reduceTrace_step _ _ hrun, halign, ← hstep]
      exact congrArg (_ :: ·) (ih (by omega) (by omega) (by omega))

/-- With fuel for all twelve steps. -/
theorem reduceTrace_eq (cw : Codeword23) {fuel : Nat} (hfuel : 12 ≤ fuel) : reduceTrace fuel cw 22 =
    ((List.range 12).filter fun m => quotientBit cw (22 - m)).map fun m => (unrolledValue cw m, 22 - m) :=
  reduceTrace_unrolledValue cw 12 (n := 0) rfl hfuel le_rfl

theorem reduce_eq (cw : Codeword23) {fuel : Nat} (hfuel : 12 ≤ fuel) : reduce fuel cw 22 = unrolledValue cw 12 :=
  reduce_unrolledValue cw 12 (n := 0) rfl hfuel le_rfl

theorem reduceTrace_length_le_fuel (fuel : Nat) (v : Codeword23) (p : Nat) :
    (reduceTrace fuel v p).length ≤ fuel := by
  induction fuel generalizing v p with
  | zero => exact le_rfl
  | succ fuel ih =>
    by_cases h : v &&& highMask = 0
    · simp [reduceTrace_done _ _ h]
    · simpa [reduceTrace_step _ _ h] using ih _ _

theorem reduceTrace_length_le (fuel : Nat) (cw : Codeword23) : (reduceTrace fuel cw 22).length ≤ 12 := by
  obtain h | h := Nat.le_total fuel 12
  · exact (reduceTrace_length_le_fuel fuel cw 22).trans h
  · rw [reduceTrace_eq cw h, ← reduceTrace_eq cw le_rfl]
    exact reduceTrace_length_le_fuel 12 cw 22

/-- The probe's positions, in the order of the iterations. -/
theorem reduceTrace_positions (cw : Codeword23) : (reduceTrace 12 cw 22).map (·.2) =
    ((List.range 12).filter fun m => quotientBit cw (22 - m)).map (22 - ·) := by
  rw [reduceTrace_eq cw le_rfl, List.map_map]
  rfl

theorem reduceTrace_positions_pairwise (cw : Codeword23) :
    ((reduceTrace 12 cw 22).map (·.2)).Pairwise (· > ·) := by
  have hrange : (List.range 12).Pairwise fun m m' => 22 - m > 22 - m' := by decide
  rw [reduceTrace_positions, List.pairwise_map]
  exact hrange.filter _

theorem mem_reduceTrace_positions {cw : Codeword23} {p : Nat} (hp : p ∈ (reduceTrace 12 cw 22).map (·.2)) :
    11 ≤ p ∧ p ≤ 22 := by
  rw [reduceTrace_positions] at hp
  obtain ⟨m, hm, rfl⟩ := List.mem_map.1 hp
  have := List.mem_range.1 (List.mem_filter.1 hm).1
  omega

/-- The number of iterations is the number of 1 coefficients of the quotient. -/
theorem reduceTrace_length (cw : Codeword23) :
    (reduceTrace 12 cw 22).length = (List.range 12).countP fun n => quotientBit cw (n + 11) := by
  have hreverse : List.range 12 = ((List.range 12).map (11 - ·)).reverse := by decide
  rw [reduceTrace_eq cw le_rfl, List.length_map, ← List.countP_eq_length_filter]
  conv_rhs => rw [hreverse, List.countP_reverse, List.countP_map]
  refine List.countP_congr fun m hm => ?_
  have hm' : 11 - m + 11 = 22 - m := by have := List.mem_range.1 hm; omega
  rw [Function.comp_apply, hm']

theorem reduceTrace_length_eq_zero_iff (cw : Codeword23) : (reduceTrace 12 cw 22).length = 0 ↔ cw.toNat < 2048 := by
  rw [← and_highMask_eq_zero_iff_toNat_lt]
  by_cases h : cw &&& highMask = 0
  · simp [h, reduceTrace_done]
  · exact iff_of_false (by simp [reduceTrace_step _ _ h]) h

/-! ## The words with twelve iterations (R97) -/

theorem quotientBit_xor (a b : Codeword23) (i : Nat) :
    quotientBit (a ^^^ b) i = xor (quotientBit a i) (quotientBit b i) := by
  rw [quotientBit, unrolledValue_xor, BitVec.getLsbD_xor]
  rfl

/-- R97's example of a word with twelve iterations: all coefficients of its quotient are 1. -/
def fullQuotientWord : Codeword23 := 0x42C800

theorem quotientBit_fullQuotientWord : ∀ n < 12, quotientBit fullQuotientWord (n + 11) = true := by decide

/-- Twelve iterations are none at all once the quotient of all ones is taken away. -/
theorem reduceTrace_length_eq_twelve_iff (cw : Codeword23) :
    (reduceTrace 12 cw 22).length = 12 ↔ (cw ^^^ fullQuotientWord).toNat < 2048 := by
  rw [← reduceTrace_length_eq_zero_iff, reduceTrace_length, reduceTrace_length, List.countP_eq_zero]
  conv_lhs => rhs; rw [← List.length_range (n := 12)]
  rw [List.countP_eq_length]
  refine forall₂_congr fun n hn => ?_
  rw [quotientBit_xor, quotientBit_fullQuotientWord n (List.mem_range.1 hn), Bool.xor_true]
  simp

/-- A word below 2^11 is an 11-bit value widened. -/
theorem toNat_lt_iff_exists_setWidth (v : Codeword23) : v.toNat < 2048 ↔ ∃ s : Syndrome, s.setWidth 23 = v := by
  constructor
  · intro h
    refine ⟨v.setWidth 11, BitVec.eq_of_toNat_eq ?_⟩
    rw [BitVec.toNat_setWidth, BitVec.toNat_setWidth, Nat.mod_eq_of_lt (a := v.toNat) h, Nat.mod_eq_of_lt v.isLt]
  · rintro ⟨s, rfl⟩
    rw [BitVec.toNat_setWidth]
    exact (Nat.mod_le _ _).trans_lt s.isLt

theorem card_reduceTrace_length_eq_twelve :
    Nat.card { cw : Codeword23 // (reduceTrace 12 cw 22).length = 12 } = 2048 := by
  have hset : { cw : Codeword23 | (reduceTrace 12 cw 22).length = 12 } =
      Set.range fun s : Syndrome => s.setWidth 23 ^^^ fullQuotientWord := by
    ext cw
    rw [Set.mem_ofPred_eq, reduceTrace_length_eq_twelve_iff, toNat_lt_iff_exists_setWidth]
    refine exists_congr fun s => ?_
    rw [← BitVec.xor_left_inj fullQuotientWord, BitVec.xor_assoc, BitVec.xor_self, BitVec.xor_zero]
  have hinj : Function.Injective fun s : Syndrome => s.setWidth 23 ^^^ fullQuotientWord := fun s s' h => by
    simpa using congrArg syndrome ((BitVec.xor_left_inj _).1 h)
  calc Nat.card { cw : Codeword23 | (reduceTrace 12 cw 22).length = 12 }
    _ = Nat.card Syndrome := by rw [hset, Nat.card_range_of_injective hinj]
    _ = 2048 := card_bitVec 11

/-- Settles O29: the iterations are the steps of the unrolled form that perform their XOR, at most twelve at falling
positions; the words that perform all twelve are one of them XOR the words that perform none. -/
theorem loopIsBounded : Obligations.LoopIsBounded := by
  refine ⟨reduceTrace_length_le, fun fuel cw hfuel => ⟨?_, ?_, ?_⟩,
    fun cw => ⟨reduceTrace_positions_pairwise cw, fun p hp => mem_reduceTrace_positions hp⟩,
    reduceTrace_length, reduceTrace_length_eq_zero_iff, card_reduceTrace_length_eq_twelve, ?_, ?_⟩
  · rw [reduce_eq cw hfuel, and_highMask_unrolledValue]
  · rw [reduce_eq cw hfuel, reduce_eq cw le_rfl]
  · rw [reduceTrace_eq cw hfuel, reduceTrace_eq cw le_rfl]
  · decide +kernel
  · decide +kernel

end Sys2Proof.Machine

namespace Sys2Proof.Machine

/-! ## The syndrome is the polynomial remainder (R93) -/

open Polynomial

/-- The coefficients of the polynomial whose terms a family of bits selects. -/
theorem coeff_sum_ite_X_pow (b : ℕ → Bool) (n j : ℕ) :
    (∑ i ∈ Finset.range n, if b i then X ^ i else 0 : (ZMod 2)[X]).coeff j = if j < n ∧ b j then 1 else 0 := by
  induction n with
  | zero => simp
  | succ n ih =>
    rw [Finset.sum_range_succ, coeff_add, ih]
    obtain h | rfl | h := Nat.lt_trichotomy j n
    · have hj : (if b n then X ^ n else 0 : (ZMod 2)[X]).coeff j = 0 := by split <;> simp [coeff_X_pow, h.ne]
      simp [hj, h, h.trans n.lt_succ_self]
    · cases hb : b j <;> simp
    · have hj : (if b n then X ^ n else 0 : (ZMod 2)[X]).coeff j = 0 := by split <;> simp [coeff_X_pow, h.ne']
      simp [hj, h.not_gt, Nat.not_lt.2 (Nat.succ_le_of_lt h)]

theorem degree_sum_ite_X_pow_lt (b : ℕ → Bool) (n : ℕ) :
    (∑ i ∈ Finset.range n, if b i then X ^ i else 0 : (ZMod 2)[X]).degree < n :=
  (degree_lt_iff_coeff_zero _ _).2 fun j hj => by
    rw [coeff_sum_ite_X_pow, if_neg fun h => absurd h.1 (Nat.not_lt.2 hj)]

theorem degree_wordPoly_lt {w : Nat} (v : BitVec w) : (wordPoly v).degree < w :=
  degree_sum_ite_X_pow_lt v.getLsbD w

@[simp] theorem coeff_wordPoly {w : Nat} (v : BitVec w) (j : ℕ) :
    (wordPoly v).coeff j = if v.getLsbD j then 1 else 0 := by
  rw [wordPoly, coeff_sum_ite_X_pow]
  by_cases hj : j < w
  · simp [hj]
  · simp [hj, BitVec.getLsbD_of_ge v j (Nat.not_lt.1 hj)]

theorem wordPoly_xor {w : Nat} (a b : BitVec w) : wordPoly (a ^^^ b) = wordPoly a + wordPoly b := by
  have two_eq_zero : (1 + 1 : ZMod 2) = 0 := by decide
  ext j
  rw [coeff_add, coeff_wordPoly, coeff_wordPoly, coeff_wordPoly, BitVec.getLsbD_xor]
  cases a.getLsbD j <;> cases b.getLsbD j <;> simp [two_eq_zero]

/-- Shifting the generator multiplies its polynomial by a power of x. -/
theorem wordPoly_generatorAt {p : Nat} (hp : 11 ≤ p) (hp' : p ≤ 22) :
    wordPoly (generatorAt p) = X ^ (p - 11) * wordPoly Config.G := by
  ext j
  have hshift : j - (p - 11) = j + 11 - p := by omega
  rw [coeff_wordPoly, getLsbD_generatorAt hp' hp, coeff_X_pow_mul', coeff_wordPoly, hshift]
  by_cases h : p ≤ j + 11
  · simp [h, show p - 11 ≤ j by omega]
  · simp [h, show ¬ p - 11 ≤ j by omega]

/-- A step takes x^(i-11) g(x) away when bit i is set. -/
theorem wordPoly_eq_add_unrolledStep (v : Codeword23) {i : Nat} (hi : 11 ≤ i) (hi' : i ≤ 22) :
    wordPoly v = (if v.getLsbD i then X ^ (i - 11) else 0) * wordPoly Config.G + wordPoly (unrolledStep v i) := by
  cases hbit : v.getLsbD i with
  | false => simp [unrolledStep_clear hbit]
  | true =>
    rw [unrolledStep_set hbit, wordPoly_xor, wordPoly_generatorAt hi hi', if_pos rfl, add_left_comm,
      CharTwo.add_self_eq_zero, add_zero]

/-- After n steps the word is the value reached plus the multiples of g(x) taken away. -/
theorem wordPoly_eq_add_unrolledValue (cw : Codeword23) {n : Nat} (hn : n ≤ 12) :
    wordPoly cw = (∑ m ∈ Finset.range n, if quotientBit cw (22 - m) then X ^ (11 - m) else 0) * wordPoly Config.G +
      wordPoly (unrolledValue cw n) := by
  induction n with
  | zero => simp [unrolledValue]
  | succ n ih =>
    have hpow : 22 - n - 11 = 11 - n := by omega
    rw [ih (by omega), wordPoly_eq_add_unrolledStep (unrolledValue cw n) (i := 22 - n) (by omega) (by omega),
      Finset.sum_range_succ, quotientBit_sub cw (by omega), hpow, add_mul, add_assoc, unrolledValue]

/-- The value after all steps is the syndrome. -/
theorem wordPoly_unrolledValue_twelve (cw : Codeword23) : wordPoly (unrolledValue cw 12) = wordPoly (syndrome cw) := by
  rw [syndrome_eq_syndromeUnrolled, syndromeUnrolled]
  ext j
  rw [coeff_wordPoly, coeff_wordPoly, BitVec.getLsbD_extractLsb', Nat.zero_add]
  by_cases hj : j < 11
  · simp [hj]
  · simp [hj, getLsbD_unrolledValue cw le_rfl (Nat.not_lt.1 hj)]

theorem wordPoly_eq_quotient_mul_add (cw : Codeword23) :
    wordPoly cw = (∑ n ∈ Finset.range 12, if quotientBit cw (n + 11) then X ^ n else 0) * wordPoly Config.G +
      wordPoly (syndrome cw) := by
  rw [wordPoly_eq_add_unrolledValue cw le_rfl, wordPoly_unrolledValue_twelve, ← Finset.sum_range_reflect]
  refine congrArg (· * wordPoly Config.G + _) (Finset.sum_congr rfl fun n hn => ?_)
  have hn' := Finset.mem_range.1 hn
  rw [show 22 - (12 - 1 - n) = n + 11 by omega, show 11 - (12 - 1 - n) = n by omega]

theorem monic_wordPoly_G : (wordPoly Config.G).Monic := by
  rw [wordPoly_G]
  monicity!

theorem degree_wordPoly_G : (wordPoly Config.G).degree = 11 := by
  rw [wordPoly_G]
  compute_degree!

/-- The remainder is the only one of degree at most 10. -/
theorem eq_modByMonic_G {f q r : (ZMod 2)[X]} (hr : r.degree < 11) (h : f = q * wordPoly Config.G + r) :
    r = f %ₘ wordPoly Config.G := by
  refine (div_modByMonic_unique q r monic_wordPoly_G ⟨?_, hr.trans_eq degree_wordPoly_G.symm⟩).2.symm
  rw [h, mul_comm, add_comm]

/-- Settles O25: each step that performs its XOR takes a multiple of g(x) away, and what is left has degree at most
10, so it is the remainder. -/
theorem syndromeIsRemainder : Obligations.SyndromeIsRemainder := by
  intro cw q
  have hdiv := wordPoly_eq_quotient_mul_add cw
  have hdeg : (wordPoly (syndrome cw)).degree < 11 := degree_wordPoly_lt _
  have hmod := eq_modByMonic_G hdeg hdiv
  refine ⟨hdiv, hdeg, degree_sum_ite_X_pow_lt (fun n => quotientBit cw (n + 11)) 12, hmod, fun q' r' hr' h => ?_⟩
  rw [eq_modByMonic_G hr' h, ← hmod]

end Sys2Proof.Machine

namespace Sys2Proof.Machine

/-! ## `SYN` (R100) -/

theorem codewordReservedSet_one_append (cw : Codeword23) : codewordReservedSet (1#1 ++ cw) = true := by
  rw [codewordReservedSet, BitVec.getLsbD_append]
  rfl

theorem toNat_syndrome_of_lt {cw : Codeword23} (h : cw.toNat < 2048) : (syndrome cw).toNat = cw.toNat := by
  rw [syndrome_of_toNat_lt h, BitVec.extractLsb'_toNat, Nat.shiftRight_zero]
  exact Nat.mod_eq_of_lt h

/-- Settles O12: `exec`, the decoder and the laws of the syndrome, and the rule's corner cases evaluated. -/
theorem synAnswersSyndrome : Obligations.SynAnswersSyndrome := by
  refine ⟨fun cw s => exec_eq (.syn cw) s, fun _ => rfl, fun cw => ?_, fun cw => ?_, syndrome_zero,
    fun cw => toNat_syndrome_of_lt, ?_⟩
  · rw [← setWidth_codeword]
    exact decode_encode (.syn cw)
  · exact decode_of_reservedSet (.inl ⟨.inl rfl, codewordReservedSet_one_append cw⟩)
  · decide +kernel

end Sys2Proof.Machine

namespace Sys2Proof.Machine

/-! ## The words of one weight and of the light weights, listed and counted (R111, R112) -/

/-- A number listed for weight w has w bits set. -/
theorem countP_testBit_of_mem_numbersOfWeight {n w m : Nat} (h : m ∈ numbersOfWeight n w) :
    ((List.range n).countP fun i => m.testBit i) = w := by
  induction n generalizing w m with
  | zero => cases w <;> simp_all [numbersOfWeight]
  | succ n ih =>
    rw [List.range_succ, List.countP_append, List.countP_singleton]
    have hlow {w m : Nat} (h : m ∈ numbersOfWeight n w) :
        ((List.range n).countP fun i => m.testBit i) + (if m.testBit n then 1 else 0) = w := by
      rw [ih h, Nat.testBit_lt_two_pow (lt_of_mem_numbersOfWeight h)]
      rfl
    cases w with
    | zero => exact hlow h
    | succ w =>
      obtain h | h := List.mem_append.1 h
      · exact hlow h
      · obtain ⟨m, hm, rfl⟩ := List.mem_map.1 h
        have hrest : ((List.range n).countP fun i => (2 ^ n + m).testBit i) =
            (List.range n).countP fun i => m.testBit i :=
          List.countP_congr fun i hi => by rw [Nat.testBit_two_pow_add_gt (List.mem_range.1 hi)]
        rw [hrest, ih hm, Nat.testBit_two_pow_add_eq, Nat.testBit_lt_two_pow (lt_of_mem_numbersOfWeight hm)]
        rfl

theorem length_numbersOfWeight (n w : Nat) : (numbersOfWeight n w).length = n.choose w := by
  induction n generalizing w with
  | zero => cases w <;> rfl
  | succ n ih =>
    cases w with
    | zero => rw [numbersOfWeight, ih, Nat.choose_zero_right, Nat.choose_zero_right]
    | succ w =>
      rw [numbersOfWeight, List.length_append, List.length_map, ih, ih, Nat.choose_succ_succ, Nat.add_comm]

/-- The words of width n and weight w in ascending order: `patternsOfWeight` for every width. -/
def wordsOfWeight (n w : Nat) : List (BitVec n) := (numbersOfWeight n w).map (BitVec.ofNat n)

theorem patternsOfWeight_eq (w : Nat) : patternsOfWeight w = wordsOfWeight 23 w := rfl

theorem mem_wordsOfWeight {n w : Nat} {v : BitVec n} : v ∈ wordsOfWeight n w ↔ popcount v = w := by
  constructor
  · intro h
    obtain ⟨m, hm, rfl⟩ := List.mem_map.1 h
    have htoNat : (BitVec.ofNat n m).toNat = m := Nat.mod_eq_of_lt (lt_of_mem_numbersOfWeight hm)
    simpa only [popcount, BitVec.getLsbD, htoNat] using countP_testBit_of_mem_numbersOfWeight hm
  · rintro rfl
    exact List.mem_map.2 ⟨v.toNat, mem_numbersOfWeight n v.isLt, by simp⟩

theorem pairwise_wordsOfWeight (n w : Nat) : (wordsOfWeight n w).Pairwise (· < ·) := by
  refine List.pairwise_map.2 ((pairwise_numbersOfWeight n w).imp_of_mem fun ha hb hab => ?_)
  rwa [BitVec.lt_def, BitVec.toNat_ofNat, BitVec.toNat_ofNat, Nat.mod_eq_of_lt (lt_of_mem_numbersOfWeight ha),
    Nat.mod_eq_of_lt (lt_of_mem_numbersOfWeight hb)]

theorem nodup_wordsOfWeight (n w : Nat) : (wordsOfWeight n w).Nodup :=
  (pairwise_wordsOfWeight n w).imp fun h => BitVec.ne_of_lt h

theorem length_wordsOfWeight (n w : Nat) : (wordsOfWeight n w).length = n.choose w := by
  rw [wordsOfWeight, List.length_map, length_numbersOfWeight]

/-- The words of width n and weight at most t, by weight: `candidates` for every width and bound. -/
def lightWords (n t : Nat) : List (BitVec n) := (List.range (t + 1)).flatMap (wordsOfWeight n)

theorem candidates_eq : candidates = lightWords 23 3 := rfl

theorem mem_lightWords {n t : Nat} {v : BitVec n} : v ∈ lightWords n t ↔ popcount v ≤ t := by
  simp [lightWords, mem_wordsOfWeight]

theorem nodup_lightWords (n t : Nat) : (lightWords n t).Nodup := by
  refine List.nodup_flatMap.2 ⟨fun w _ => nodup_wordsOfWeight n w, List.nodup_range.imp fun hne v hv hv' => ?_⟩
  exact hne ((mem_wordsOfWeight.1 hv).symm.trans (mem_wordsOfWeight.1 hv'))

theorem length_lightWords (n t : Nat) : (lightWords n t).length = ((List.range (t + 1)).map n.choose).sum := by
  simp only [lightWords, List.length_flatMap, length_wordsOfWeight]

/-- As many values have a property as a list of them without repetition is long. -/
theorem card_subtype_eq_length {α : Type} [DecidableEq α] {p : α → Prop} {l : List α} (hl : l.Nodup)
    (hp : ∀ a, a ∈ l ↔ p a) : Nat.card { a // p a } = l.length := by
  rw [Nat.subtype_card l.toFinset fun a => List.mem_toFinset.trans (hp a), List.toFinset_card_of_nodup hl]

theorem card_popcount_eq (n w : Nat) : Nat.card { v : BitVec n // popcount v = w } = n.choose w := by
  rw [card_subtype_eq_length (nodup_wordsOfWeight n w) fun _ => mem_wordsOfWeight, length_wordsOfWeight]

theorem card_popcount_le (n t : Nat) :
    Nat.card { v : BitVec n // popcount v ≤ t } = ((List.range (t + 1)).map n.choose).sum := by
  rw [card_subtype_eq_length (nodup_lightWords n t) fun _ => mem_lightWords, length_lightWords]

/-- Widening sets no bit. -/
theorem popcount_setWidth {m n : Nat} (h : m ≤ n) (v : BitVec m) : popcount (v.setWidth n) = popcount v := by
  obtain ⟨k, rfl⟩ := Nat.exists_eq_add_of_le h
  have hlow : ((List.range m).countP fun i => (v.setWidth (m + k)).getLsbD i) = popcount v :=
    List.countP_congr fun i hi => by simp [(List.mem_range.1 hi).trans_le h]
  have hhigh : (((List.range k).map (m + ·)).countP fun i => (v.setWidth (m + k)).getLsbD i) = 0 := by
    simp [List.countP_eq_zero]
  rw [popcount, List.range_add, List.countP_append, hlow, hhigh, Nat.add_zero]

end Sys2Proof.Machine

namespace Sys2Proof.Machine

/-! ## The candidates and the construction (R112, R113, R114) -/

theorem mem_candidates_iff {e : CorrectionEntry} : e ∈ candidates ↔ popcount e ≤ 3 := by
  rw [candidates_eq, mem_lightWords]

theorem candidates_nodup : candidates.Nodup := candidates_eq ▸ nodup_lightWords 23 3

theorem syndrome_injOn_candidates :
    ∀ e ∈ candidates, ∀ e' ∈ candidates, syndrome e = syndrome e' → e = e' := fun e he e' he' h => by
  rw [← romRead_syndrome (mem_candidates_iff.1 he), h, romRead_syndrome (mem_candidates_iff.1 he')]

/-- Settles O34: the candidates are the listed words of the four weights, and the table recovers each from its
syndrome. -/
theorem candidatesNeverCollide : Obligations.CandidatesNeverCollide := by
  refine ⟨fun _ => mem_candidates_iff, ?_, ?_, ?_, ?_, candidates_length, candidates_nodup,
    candidates_nodup.map_on syndrome_injOn_candidates⟩ <;>
  · rw [patternsOfWeight_eq, length_wordsOfWeight]
    rfl

/-- In a list of all candidates and no others, the first one of syndrome s is the entry at s, as it is the only
one. -/
theorem buildFrom_of_perm {es : List CorrectionEntry} (h : es.Perm candidates) (s : Syndrome) :
    buildFrom es s = some (romRead s) := by
  have hmem : romRead s ∈ es := h.mem_iff.2 (mem_candidates_iff.2 (popcount_romRead_le s))
  rw [buildFrom_eq_find?]
  cases hfind : es.find? fun e => s = syndrome e with
  | none => exact absurd (syndrome_romRead s).symm (by simpa using List.find?_eq_none.1 hfind _ hmem)
  | some e =>
    obtain rfl : s = syndrome e := by simpa using List.find?_some hfind
    rw [romRead_syndrome (mem_candidates_iff.1 (h.mem_iff.1 (List.mem_of_find?_eq_some hfind)))]

/-- Settles O35: each slot has exactly one candidate, so the order they come in does not matter. -/
theorem constructionGivesListing : Obligations.ConstructionGivesListing := by
  have hbuild : ∀ s, buildTable s = some (romRead s) := buildFrom_of_perm (List.Perm.refl candidates)
  refine ⟨fun s => Option.isSome_of_eq_some (hbuild s), hbuild, fun es h => ?_,
    fun w _ => ⟨pairwise_wordsOfWeight 23 w, fun e => mem_wordsOfWeight.1⟩⟩
  funext s
  rw [buildFrom_of_perm h, hbuild]

end Sys2Proof.Machine

namespace Sys2Proof.Machine

/-! ## The table and the syndrome undo each other (R115, R116, R117, R118) -/

theorem romRead_eq_iff {s : Syndrome} {e : CorrectionEntry} : romRead s = e ↔ popcount e ≤ 3 ∧ syndrome e = s := by
  constructor
  · rintro rfl
    exact ⟨popcount_romRead_le s, syndrome_romRead s⟩
  · rintro ⟨he, rfl⟩
    exact romRead_syndrome he

/-- Settles O36: an entry is light with its index as syndrome, and a light word is the entry at its syndrome. -/
theorem entryIsUniqueLightPattern : Obligations.EntryIsUniqueLightPattern := fun _ _ => romRead_eq_iff

theorem romRead_syndrome_eq_iff {e : CorrectionEntry} : romRead (syndrome e) = e ↔ popcount e ≤ 3 := by
  rw [romRead_eq_iff, and_iff_left rfl]

theorem romRead_injective : Function.Injective romRead := Function.LeftInverse.injective syndrome_romRead

theorem exists_romRead_eq_iff {e : CorrectionEntry} : (∃ s, romRead s = e) ↔ popcount e ≤ 3 := by
  simp [romRead_eq_iff]

theorem popcount_romRead_eq_zero_iff (s : Syndrome) : popcount (romRead s) = 0 ↔ s = 0 := by
  rw [popcount_eq_zero, romRead_eq_iff, syndrome_zero, eq_comm (a := s), and_iff_right]
  decide

/-- As many entries have a light weight w as there are words of that weight. -/
theorem card_popcount_romRead_eq {w : Nat} (hw : w ≤ 3) :
    Nat.card { s : Syndrome // popcount (romRead s) = w } = Nat.choose 23 w := by
  have himage : romRead '' { s | popcount (romRead s) = w } = { e | popcount e = w } := by
    ext e
    constructor
    · rintro ⟨s, hs, rfl⟩
      exact hs
    · intro he
      obtain ⟨s, rfl⟩ := exists_romRead_eq_iff.2 (he.trans_le hw)
      exact ⟨s, he, rfl⟩
  calc Nat.card { s : Syndrome | popcount (romRead s) = w }
    _ = Nat.card { e : CorrectionEntry | popcount e = w } := by
      rw [← himage, Nat.card_image_of_injective romRead_injective]
    _ = Nat.choose 23 w := card_popcount_eq 23 w

/-- Settles O37: `syndrome` is the inverse, and a weight's entries are counted as its words are. -/
theorem tableIsBijection : Obligations.TableIsBijection :=
  ⟨romRead_injective, fun _ => exists_romRead_eq_iff, popcount_romRead_eq_zero_iff,
    card_popcount_romRead_eq (w := 1) (by decide), card_popcount_romRead_eq (w := 2) (by decide),
    card_popcount_romRead_eq (w := 3) (by decide)⟩

/-- Settles O38: the entry at a word's syndrome is that word exactly when the word is light. -/
theorem tableInvertsSyndrome : Obligations.TableInvertsSyndrome :=
  ⟨syndrome_romRead, fun _ => romRead_syndrome_eq_iff.2,
    fun _ he h => absurd (romRead_syndrome_eq_iff.1 h) (Nat.not_le.2 he)⟩

/-- A light index is the syndrome of its own bits, so it holds itself (R118). -/
theorem romRead_eq_setWidth {s : Syndrome} (hs : popcount s ≤ 3) : romRead s = s.setWidth 23 :=
  romRead_eq_iff.2 ⟨by rwa [popcount_setWidth (by decide)], syndrome_setWidth s⟩

/-- An entry with no bit at 11 or above is its index widened, so the index is light. -/
theorem popcount_le_of_romRead_high_clear {s : Syndrome} (h : ∀ i, 11 ≤ i → (romRead s).getLsbD i = false) :
    popcount s ≤ 3 := by
  rw [← and_highMask_eq_zero_iff, and_highMask_eq_zero_iff_toNat_lt, toNat_lt_iff_exists_setWidth] at h
  obtain ⟨s', hs'⟩ := h
  obtain rfl : s' = s := by rw [← syndrome_setWidth s', hs', syndrome_romRead]
  rw [← popcount_setWidth (n := 23) (by decide), hs']
  exact popcount_romRead_le s'

/-- Settles O39: light indices are syndromes of their own bits, and only they are held by an entry without high
bits. -/
theorem lightIndicesHoldThemselves : Obligations.LightIndicesHoldThemselves := by
  refine ⟨fun s => romRead_eq_setWidth, card_popcount_le 11 3, fun s hs => ?_, ?_⟩
  · by_contra! hclear
    exact absurd (popcount_le_of_romRead_high_clear (by simpa using hclear)) (Nat.not_le.2 hs)
  · exact ⟨romRead_eq_setWidth (by decide), romRead_eq_setWidth (by decide), romRead_eq_setWidth (by decide),
      romRead_eq_setWidth (by decide), romRead_eq_setWidth (by decide), romRead_eq_setWidth (by decide)⟩

/-- Settles O40: 0x024020 is light and has syndrome 15, so it is the entry there; the rest is computed. -/
theorem entryAtIndex15 : Obligations.EntryAtIndex15 := by
  have hsyn : syndrome 0x024020 = 0x00F := by decide
  have hweight : popcount (0x024020 : CorrectionEntry) = 3 := by decide
  have hentry : romRead 15 = 0x024020 := romRead_eq_iff.2 ⟨hweight.le, hsyn⟩
  exact ⟨hentry, hentry, rfl, rfl, rfl, hsyn, hsyn, hweight, by decide, by decide⟩

end Sys2Proof.Machine

namespace Sys2Proof.Machine

/-! ## The words of one syndrome (R122) -/

/-- Two words have the same syndrome exactly when they differ by a valid codeword. -/
theorem validCodeword_xor_iff (a b : Codeword23) : validCodeword (a ^^^ b) = true ↔ syndrome b = syndrome a := by
  rw [validCodeword_iff, syndrome_xor, eq_comm (a := syndrome b)]
  exact BitVec.xor_eq_zero_iff

theorem syndrome_eq_iff_exists_validCodeword (s : Syndrome) (r : Codeword23) :
    syndrome r = s ↔ ∃ c, validCodeword c = true ∧ r = romRead s ^^^ c := by
  constructor
  · intro h
    refine ⟨romRead s ^^^ r, ?_, ?_⟩
    · rw [validCodeword_xor_iff, syndrome_romRead, h]
    · rw [← BitVec.xor_assoc, BitVec.xor_self, BitVec.zero_xor]
  · rintro ⟨c, hc, rfl⟩
    rw [syndrome_xor, syndrome_romRead, (validCodeword_iff c).1 hc]
    exact BitVec.xor_zero

theorem card_syndrome_eq (s : Syndrome) : Nat.card { r : Codeword23 // syndrome r = s } = 4096 := by
  have hinj : Function.Injective (romRead s ^^^ ·) := fun _ _ => (BitVec.xor_right_inj _).1
  have himage : { r : Codeword23 | syndrome r = s } = (romRead s ^^^ ·) '' { c | validCodeword c = true } := by
    ext r
    simp only [Set.mem_ofPred_eq, syndrome_eq_iff_exists_validCodeword, Set.mem_image, eq_comm (a := r)]
  calc Nat.card { r : Codeword23 | syndrome r = s }
    _ = Nat.card { c : Codeword23 | validCodeword c = true } := by rw [himage, Nat.card_image_of_injective hinj]
    _ = 4096 := card_validCodeword

/-- Settles O41: the words of one syndrome are a translate of the code, and a light one among them is the entry. -/
theorem entryIsCosetLeader : Obligations.EntryIsCosetLeader := by
  refine ⟨syndrome_eq_iff_exists_validCodeword, card_syndrome_eq, fun s r hr hne => ?_, popcount_romRead_le⟩
  by_contra hlight
  exact hne (romRead_eq_iff.2 ⟨by omega, hr⟩).symm

end Sys2Proof.Machine

namespace Sys2Proof.Machine

/-! ## `ROM` (R120) -/

theorem addrReservedSet_append_of_ne_zero {high : BitVec 13} (h : high ≠ 0) (addr : Syndrome) :
    addrReservedSet (high ++ addr) = true := by
  rwa [addrReservedSet, BitVec.extractLsb'_append_eq_left, bne_iff_ne]

/-- Settles O13: `exec`, the decoder and the weight-0 entry by their laws, and the rule's corner cases evaluated. -/
theorem romAnswersEntry : Obligations.RomAnswersEntry := by
  refine ⟨fun addr s => exec_eq (.rom addr) s, fun _ => rfl, fun addr => ?_, fun high addr hhigh => ?_,
    popcount_romRead_eq_zero_iff, ?_⟩
  · rw [← setWidth_addr]
    exact decode_encode (.rom addr)
  · exact decode_of_reservedSet (.inr ⟨rfl, addrReservedSet_append_of_ne_zero hhigh addr⟩)
  · decide +kernel

end Sys2Proof.Machine

namespace Sys2Proof.Machine

/-! ## The checks of the listing (R130) -/

/-- A function of numbers that adds up over their bits: its value is that of the top bit plus that of the rest. -/
def AddsOverBits (f : Nat → Nat) : Prop := ∀ n m, m < 2 ^ n → f (2 ^ n + m) = f (2 ^ n) + f m

theorem AddsOverBits.zero {f : Nat → Nat} (hf : AddsOverBits f) : f 0 = 0 := by
  have h := hf 0 0 (by decide)
  rwa [Nat.add_zero, left_eq_add] at h

theorem addsOverBits_id : AddsOverBits id := fun _ _ _ => rfl

theorem addsOverBits_testBit (i : Nat) : AddsOverBits fun m => (m.testBit i).toNat := by
  intro n m hm
  dsimp only
  obtain hi | rfl | hi := Nat.lt_trichotomy i n
  · rw [Nat.testBit_two_pow_add_gt hi, Nat.testBit_two_pow_of_ne hi.ne', Bool.toNat_false, Nat.zero_add]
  · rw [Nat.testBit_two_pow_add_eq, Nat.testBit_two_pow_self, Nat.testBit_lt_two_pow hm]
    rfl
  · have hpow : 2 ^ (n + 1) ≤ 2 ^ i := Nat.pow_le_pow_right (by decide) hi
    have hsum : 2 ^ n + m < 2 ^ i := by omega
    rw [Nat.testBit_lt_two_pow hsum, Nat.testBit_two_pow_of_ne hi.ne, Nat.testBit_lt_two_pow (by omega)]
    rfl

theorem numbersOfWeight_zero (n : Nat) : numbersOfWeight n 0 = [0] := by
  induction n with
  | zero => rfl
  | succ n ih => rw [numbersOfWeight, ih]

/-- A number of weight w + 1 that has a given bit is fixed by its other w bits, so over all of them each of the n + 1
bits is added n choose w times. -/
theorem sum_map_numbersOfWeight {f : Nat → Nat} (hf : AddsOverBits f) (n w : Nat) :
    ((numbersOfWeight (n + 1) (w + 1)).map f).sum = n.choose w * ((List.range (n + 1)).map fun i => f (2 ^ i)).sum := by
  induction n generalizing w with
  | zero => cases w <;> simp [numbersOfWeight]
  | succ n ih =>
    have htop : ((numbersOfWeight (n + 1) w).map fun m => f (2 ^ (n + 1) + m)).sum =
        (n + 1).choose w * f (2 ^ (n + 1)) + ((numbersOfWeight (n + 1) w).map f).sum := by
      rw [List.map_congr_left fun m hm => hf _ m (lt_of_mem_numbersOfWeight hm), List.sum_map_add,
        List.map_const', List.sum_replicate, length_numbersOfWeight, smul_eq_mul]
    have hsum : ((numbersOfWeight (n + 2) (w + 1)).map f).sum = ((numbersOfWeight (n + 1) (w + 1)).map f).sum +
        ((n + 1).choose w * f (2 ^ (n + 1)) + ((numbersOfWeight (n + 1) w).map f).sum) := by
      rw [← htop, numbersOfWeight, List.map_append, List.sum_append, List.map_map]
      rfl
    rw [hsum, ih, List.range_succ (n := n + 1), List.map_append, List.sum_append]
    cases w with
    | zero => simp [numbersOfWeight_zero, hf.zero]
    | succ w =>
      rw [ih, Nat.choose_succ_succ, List.map_singleton, List.sum_singleton]
      ring

theorem sum_map_wordsOfWeight (f : Nat → Nat) (n w : Nat) :
    ((wordsOfWeight n w).map fun v => f v.toNat).sum = ((numbersOfWeight n w).map f).sum := by
  rw [wordsOfWeight, List.map_map]
  refine congrArg List.sum (List.map_congr_left fun m hm => congrArg f ?_)
  exact Nat.mod_eq_of_lt (lt_of_mem_numbersOfWeight hm)

theorem lightWords_succ (n t : Nat) : lightWords n (t + 1) = lightWords n t ++ wordsOfWeight n (t + 1) := by
  rw [lightWords, List.range_succ, List.flatMap_append, List.flatMap_singleton, lightWords]

theorem sum_map_lightWords {f : Nat → Nat} (hf : AddsOverBits f) (n t : Nat) :
    ((lightWords (n + 1) t).map fun v => f v.toNat).sum =
      ((List.range t).map n.choose).sum * ((List.range (n + 1)).map fun i => f (2 ^ i)).sum := by
  induction t with
  | zero => simp [lightWords, wordsOfWeight, numbersOfWeight_zero, hf.zero]
  | succ t ih =>
    rw [lightWords_succ, List.map_append, List.sum_append, ih, sum_map_wordsOfWeight, sum_map_numbersOfWeight hf,
      ← Nat.add_mul, List.range_succ (n := t), List.map_append, List.sum_append]
    rfl

/-- Each bit is set in 1 + 22 + 231 of the listing's words. -/
theorem sum_map_romWords {f : Nat → Nat} (hf : AddsOverBits f) :
    (romWords.map fun e => f e.toNat).sum = 254 * ((List.range 23).map fun i => f (2 ^ i)).sum := calc
  _ = (candidates.map fun e => f e.toNat).sum := (romWords_perm_candidates.map _).sum_eq
  _ = 254 * ((List.range 23).map fun i => f (2 ^ i)).sum := sum_map_lightWords hf 22 3

/-- A bit of an XOR is the parity of the number of words that have it. -/
theorem toNat_getLsbD_foldl_xor {n : Nat} (l : List (BitVec n)) (a : BitVec n) (i : Nat) :
    ((l.foldl (· ^^^ ·) a).getLsbD i).toNat =
      ((a.getLsbD i).toNat + (l.map fun v => (v.getLsbD i).toNat).sum) % 2 := by
  induction l generalizing a with
  | nil => exact (Nat.mod_eq_of_lt (Bool.toNat_lt _)).symm
  | cons v l ih =>
    have hxor : ∀ b c : Bool, (xor b c).toNat = (b.toNat + c.toNat) % 2 := by decide
    rw [List.foldl_cons, ih, BitVec.getLsbD_xor, hxor, Nat.mod_add_mod, List.map_cons, List.sum_cons, Nat.add_assoc]

/-- Each bit is set in an even number of the words. -/
theorem foldl_xor_romWords : romWords.foldl (· ^^^ ·) 0 = 0 := by
  refine BitVec.eq_of_getLsbD_eq fun i _ => ?_
  have hsum : (romWords.map fun e => (e.getLsbD i).toNat).sum =
      254 * ((List.range 23).map fun j => ((2 ^ j).testBit i).toNat).sum := by
    simpa only [BitVec.getLsbD] using sum_map_romWords (addsOverBits_testBit i)
  have hbit : ((romWords.foldl (· ^^^ ·) 0).getLsbD i).toNat = 0 := by
    rw [toNat_getLsbD_foldl_xor, hsum]
    simp [Nat.mul_mod]
  simpa using hbit

/-- The listing has as many words of a light weight w as there are words of that weight. -/
theorem countP_popcount_romWords {w : Nat} (hw : w ≤ 3) : romWords.countP (popcount · == w) = Nat.choose 23 w := by
  have hperm : (romWords.filter (popcount · == w)).Perm (wordsOfWeight 23 w) := by
    refine (List.perm_ext_iff_of_nodup (romWords_nodup.filter _) (nodup_wordsOfWeight 23 w)).2 fun e => ?_
    rw [List.mem_filter, romWords_perm_candidates.mem_iff, mem_candidates_iff, mem_wordsOfWeight, beq_iff_eq]
    omega
  rw [List.countP_eq_length_filter, hperm.length_eq, length_wordsOfWeight]

/-- Settles O42: the listing is the light words in another order, so its weights are counted as theirs are, and each
bit is set in 254 of its words, which gives the XOR 0 and the sum 254 * (2^23 - 1). -/
theorem listingChecks : Obligations.ListingChecks :=
  ⟨romWords_length, getElem?_romWords, romWords_nodup, countP_popcount_romWords (w := 0) (by decide),
    countP_popcount_romWords (w := 1) (by decide), countP_popcount_romWords (w := 2) (by decide),
    countP_popcount_romWords (w := 3) (by decide), syndrome_romRead, foldl_xor_romWords,
    (sum_map_romWords addsOverBits_id).trans (by decide)⟩

end Sys2Proof.Machine

namespace Sys2Proof.Machine

/-! ## What `decode23` answers (R140, R142, R144, R146 to R148, R152) -/

theorem decode23_mask (cw : Codeword23) : (decode23 cw).mask = romRead (syndrome cw) := rfl

theorem decode23_data (cw : Codeword23) : (decode23 cw).data = dataField (cw ^^^ (decode23 cw).mask) :=
  dataOfCorrected_eq_dataField _

theorem popcount_decode23_mask_le (cw : Codeword23) : popcount (decode23 cw).mask ≤ 3 := popcount_romRead_le _

/-- The entry has the word's own syndrome, so the corrected word has syndrome 0 (R144). -/
theorem syndrome_xor_mask (cw : Codeword23) : syndrome (cw ^^^ (decode23 cw).mask) = 0 := by
  rw [syndrome_xor, decode23_mask, syndrome_romRead]
  exact BitVec.xor_self

theorem eq_enc_of_syndrome_eq_zero {c : Codeword23} (hc : syndrome c = 0) : c = enc (dataField c) :=
  (validCodeword_iff_eq_enc c).1 ((validCodeword_iff c).2 hc)

theorem xor_mask_eq_enc (cw : Codeword23) : cw ^^^ (decode23 cw).mask = enc (decode23 cw).data := by
  rw [decode23_data]
  exact eq_enc_of_syndrome_eq_zero (syndrome_xor_mask cw)

/-- Settles O45: the mask's syndrome cancels the word's, and a word of syndrome 0 is `ENC` of its data. -/
theorem correctedWordIsValid : Obligations.CorrectedWordIsValid := fun cw => ⟨syndrome_xor_mask cw, xor_mask_eq_enc cw⟩

theorem eq_xor_iff {w : Nat} {a b c : BitVec w} : a = b ^^^ c ↔ a ^^^ b = c := by
  rw [← BitVec.xor_right_inj b, ← BitVec.xor_assoc, BitVec.xor_self, BitVec.zero_xor, BitVec.xor_comm]

theorem eq_enc_xor_mask (r : Codeword23) : r = enc (decode23 r).data ^^^ (decode23 r).mask := by
  rw [BitVec.xor_comm, eq_xor_iff, xor_mask_eq_enc]

theorem xor_enc_data_eq_mask (r : Codeword23) : r ^^^ enc (decode23 r).data = (decode23 r).mask :=
  eq_xor_iff.1 (eq_enc_xor_mask r)

/-- Data d is the answer exactly for the words within 3 positions of `ENC(d)`. -/
theorem decode23_data_eq_iff {r : Codeword23} {d : DataWord} :
    (decode23 r).data = d ↔ popcount (r ^^^ enc d) ≤ 3 := by
  constructor
  · rintro rfl
    rw [xor_enc_data_eq_mask]
    exact popcount_decode23_mask_le r
  · intro h
    rw [eq_xor_iff.2 (rfl : r ^^^ enc d = _), decode23_enc_xor d h]

theorem decode23_enc (d : DataWord) : decode23 (enc d) = ⟨d, 0⟩ := by
  have h := decode23_enc_xor d (e := 0#23) (by decide)
  rwa [BitVec.xor_zero] at h

/-- Settles O47: a valid codeword is `ENC` of its data. -/
theorem threeErrorsAreCorrected : Obligations.ThreeErrorsAreCorrected := by
  intro c e hc he
  obtain ⟨d, rfl⟩ : ∃ d, c = enc d := ⟨_, (validCodeword_iff_eq_enc c).1 hc⟩
  rw [decode23_enc_xor d he, decode23_enc, dataField_enc]
  exact ⟨rfl, rfl⟩

/-- Settles O49: a word of syndrome 0 is `ENC` of its data, and flipping no bit of it is at most three errors. -/
theorem zeroErrorIsExact : Obligations.ZeroErrorIsExact := by
  refine ⟨?_, fun d => ⟨syndrome_enc d, decode23_enc d⟩⟩
  rintro d c hc rfl
  rw [eq_enc_of_syndrome_eq_zero hc, decode23_enc, dataField_enc]

/-- The mask is 0 exactly for a valid codeword: only syndrome 0 has the entry of weight 0. -/
theorem nothingCorrected_iff (cw : Codeword23) : nothingCorrected (decode23 cw) = true ↔ validCodeword cw = true := by
  rw [validCodeword_iff, ← popcount_romRead_eq_zero_iff, popcount_eq_zero]
  exact beq_iff_eq

/-- Settles O48: the mask is the difference between the word and the corrected word. -/
theorem maskIsErrorIndicator : Obligations.MaskIsErrorIndicator := by
  refine fun cw => ⟨nothingCorrected_iff cw, fun h => ?_, ?_, popcount_decode23_mask_le cw⟩
  · have hmask : (decode23 cw).mask = 0#23 := beq_iff_eq.1 h
    rw [← xor_mask_eq_enc, hmask, BitVec.xor_zero]
  · rw [xor_enc_data_eq_mask]
    rfl

/-! ## The encoding helper (R150) -/

/-- `ENC` is linear: the XOR of two valid codewords is the valid codeword of the XOR of their data. -/
theorem enc_xor (a b : DataWord) : enc (a ^^^ b) = enc a ^^^ enc b := by
  have hdata : dataField (enc a ^^^ enc b) = a ^^^ b :=
    BitVec.extractLsb'_xor.trans (congrArg₂ _ (dataField_enc a) (dataField_enc b))
  have hvalid : validCodeword (enc a ^^^ enc b) = true := by
    rw [validCodeword_xor_iff, syndrome_enc, syndrome_enc]
  rw [(validCodeword_iff_eq_enc _).1 hvalid, hdata]

/-- Settles O51: its uniqueness is that of the check bits with syndrome 0; the listed values are computed. -/
theorem encodingHelper : Obligations.EncodingHelper := by
  refine ⟨fun _ => rfl, fun d c => ⟨?_, ?_⟩, by decide +kernel, by decide +kernel, by decide +kernel,
    by decide +kernel, by decide +kernel, by decide +kernel, by decide +kernel, by decide +kernel, enc_xor⟩
  · rintro ⟨rfl, hc⟩
    exact eq_enc_of_syndrome_eq_zero hc
  · rintro rfl
    exact ⟨dataField_enc d, syndrome_enc d⟩

/-! ## The words by their answer (R145, R152) -/

/-- Each pair of a data value and a light mask is the answer for exactly one word, so words are counted as pairs. -/
theorem card_decode23 (D : DataWord → Prop) (E : CorrectionEntry → Prop) (hE : ∀ e, E e → popcount e ≤ 3) :
    Nat.card { r : Codeword23 // D (decode23 r).data ∧ E (decode23 r).mask } =
      Nat.card { d // D d } * Nat.card { e // E e } := by
  have hinv (d : { d // D d }) (e : { e // E e }) : decode23 (enc d ^^^ e) = ⟨d, e⟩ := decode23_enc_xor d.1 (hE e e.2)
  rw [← Nat.card_prod]
  refine Nat.card_congr
    { toFun := fun r => (⟨_, r.2.1⟩, ⟨_, r.2.2⟩)
      invFun := fun p => ⟨enc p.1 ^^^ p.2, by rw [hinv]; exact ⟨p.1.2, p.2.2⟩⟩
      left_inv := fun r => Subtype.ext (eq_enc_xor_mask r).symm
      right_inv := fun p => by simp only [hinv] }

theorem card_popcount_mask_eq {w : Nat} (hw : w ≤ 3) :
    Nat.card { cw : Codeword23 // popcount (decode23 cw).mask = w } = 4096 * Nat.choose 23 w := by
  have h := card_decode23 (fun _ => True) (popcount · = w) fun _ he => he.trans_le hw
  simp only [true_and, Nat.card_subtype_true, card_bitVec, card_popcount_eq] at h
  exact h

/-- Settles O46: a word is a data value and a light mask, and light masks of each weight are counted. -/
theorem maskWeightCounts : Obligations.MaskWeightCounts :=
  ⟨popcount_decode23_mask_le, card_popcount_mask_eq (w := 0) (by decide), card_popcount_mask_eq (w := 1) (by decide),
    card_popcount_mask_eq (w := 2) (by decide), card_popcount_mask_eq (w := 3) (by decide)⟩

theorem card_data_eq (d : DataWord) : Nat.card { r : Codeword23 // (decode23 r).data = d } = 2048 := by
  have h := card_decode23 (· = d) (popcount · ≤ 3) fun _ => id
  simp only [popcount_decode23_mask_le, and_true, card_popcount_le, Nat.card_unique, one_mul] at h
  exact h

theorem enc_zero : enc 0 = 0#23 := by decide

/-- Settles O53: the answer's data names the ball that the word lies in, whose centre is `ENC` of it. -/
theorem decodingPartitionsWords : Obligations.DecodingPartitionsWords := by
  refine ⟨fun d r => decode23_data_eq_iff, card_data_eq, fun d r => ?_, fun r => ?_, fun r => ?_⟩
  · simp [eq_xor_iff, decode23_data_eq_iff]
  · refine ⟨enc (decode23 r).data, ⟨validCodeword_enc _, decode23_data_eq_iff.1 rfl⟩, fun c ⟨hc, hr⟩ => ?_⟩
    rw [(validCodeword_iff_eq_enc c).1 hc] at hr ⊢
    rw [decode23_data_eq_iff.2 hr]
  · rw [decode23_data_eq_iff, enc_zero, BitVec.xor_zero]

end Sys2Proof.Machine

namespace Sys2Proof.Machine

/-! ## `DEC23` and `DEC24` (R140 to R143, R149) -/

/-- Settles O14: `exec`, the decoder and the parts of `decode23` by their laws, and the rule's corner cases
evaluated. -/
theorem dec23AnswersDecoded : Obligations.Dec23AnswersDecoded := by
  refine ⟨fun cw s => exec_eq (.dec23 cw) s, fun cw => ⟨decode23_mask cw, rfl, decode23_data cw⟩, fun _ => rfl,
    fun cw => ?_, fun cw => ?_, ?_⟩
  · rw [← setWidth_codeword]
    exact decode_encode (.dec23 cw)
  · exact decode_of_reservedSet (.inl ⟨.inr rfl, codewordReservedSet_one_append cw⟩)
  · decide +kernel

/-- Settles O15: `exec`, the decoder and the dropped parity bit by their laws, and the rule's corner cases
evaluated. -/
theorem dec24AnswersDecoded : Obligations.Dec24AnswersDecoded := by
  refine ⟨fun word s => exec_eq (.dec24 word) s, fun word => ⟨rfl, ?_⟩, fun _ => rfl,
    fun word => decode_encode (.dec24 word), ?_⟩
  · rw [decode24, dropParity_eq_extractLsb']
  · decide +kernel

/-- Settles O43: a slice of a word is the quotient by a power of 2, and the slices here reach the word's top bit. -/
theorem extractionsLoseNothing : Obligations.ExtractionsLoseNothing := by
  refine ⟨fun corrected => ?_, fun word => ?_, decode23_mask, fun word => decode23_mask _⟩
  · rw [dataOfCorrected, BitVec.toNat_setWidth, BitVec.toNat_ushiftRight, Nat.shiftRight_eq_div_pow]
    exact Nat.mod_eq_of_lt (Nat.div_lt_of_lt_mul corrected.isLt)
  · rw [dropParity, BitVec.toNat_setWidth, BitVec.toNat_ushiftRight, Nat.shiftRight_eq_div_pow]
    exact Nat.mod_eq_of_lt (Nat.div_lt_of_lt_mul word.isLt)

@[simp] theorem dropParity_withParity (c : Codeword23) (p : Bool) : dropParity (withParity c p) = c := by
  rw [dropParity_eq_extractLsb', withParity, BitVec.extractLsb'_append_eq_left]

/-- `(c << 1) | p` is the codeword over the parity bit. -/
theorem shiftLeft_or_eq_withParity (c : Codeword23) (p : Bool) :
    (c.setWidth 24 <<< 1) ||| (BitVec.ofBool p).setWidth 24 = withParity c p := by
  rw [← BitVec.setWidth_append_eq_shiftLeft_setWidth_or, BitVec.setWidth_eq, withParity]

theorem decode24_withParity (c : Codeword23) (p : Bool) : decode24 (withParity c p) = decode23 c := by
  rw [decode24, dropParity_withParity]

theorem decode24_shiftLeft_or_one (c : Codeword23) : decode24 ((c.setWidth 24 <<< 1) ||| 1) = decode23 c :=
  (congrArg decode24 (shiftLeft_or_eq_withParity c true)).trans (decode24_withParity c true)

/-- Settles O50: both words are the codeword over a parity bit, which is dropped. -/
theorem parityBitIsIgnored : Obligations.ParityBitIsIgnored := fun c =>
  ⟨(congrArg decode24 (shiftLeft_or_eq_withParity c false)).trans (decode24_withParity c false),
    decode24_shiftLeft_or_one c⟩

/-- The mask, moved up by the parity bit, flips no parity bit. -/
theorem correctedWord24_eq (word : Codeword24) :
    correctedWord24 word = word ^^^ withParity (decode24 word).mask false := by
  rw [correctedWord24, ← shiftLeft_or_eq_withParity]
  exact congrArg (word ^^^ ·) BitVec.or_zero.symm

theorem getLsbD_withParity_zero (c : Codeword23) (p : Bool) : (withParity c p).getLsbD 0 = p :=
  BitVec.getLsbD_append.trans (by simp)

theorem getLsbD_withParity_succ (c : Codeword23) (p : Bool) (i : Nat) :
    (withParity c p).getLsbD (i + 1) = c.getLsbD i :=
  BitVec.getLsbD_append.trans (by simp)

/-- Settles O44: the mask stands over a parity bit 0, so the corrected word without its parity bit is the word that
`decode23` corrects to. -/
theorem dec24MaskIsShifted : Obligations.Dec24MaskIsShifted := by
  refine fun word => ⟨fun i _ => ?_, ?_, ?_⟩
  · rw [correctedWord24_eq, BitVec.getLsbD_xor, getLsbD_withParity_succ]
  · rw [correctedWord24_eq, parityBit, parityBit, BitVec.getLsbD_xor, getLsbD_withParity_zero, Bool.xor_false]
  · have hdrop : dropParity (correctedWord24 word) = dropParity word ^^^ (decode24 word).mask := by
      conv_rhs => rw [← dropParity_withParity (decode24 word).mask false]
      rw [correctedWord24_eq, dropParity_eq_extractLsb', dropParity_eq_extractLsb', dropParity_eq_extractLsb',
        BitVec.extractLsb'_xor]
    rw [hdrop]
    exact xor_mask_eq_enc (dropParity word)

end Sys2Proof.Machine

namespace Sys2Proof.Machine

/-! ## The words near a word, counted by their weight -/

open Finset

/-- The positions of a word's set bits. -/
def support {n : Nat} (v : BitVec n) : Finset ℕ := {i ∈ range n | v.getLsbD i}

theorem card_support {n : Nat} (v : BitVec n) : #(support v) = popcount v :=
  (List.countP_eq_length_filter (p := fun i => decide (v.getLsbD i = true))).symm.trans (by simp [popcount])

theorem mem_support {n : Nat} {v : BitVec n} {i : ℕ} : i ∈ support v ↔ v.getLsbD i = true := by
  rw [support, mem_filter, mem_range, and_iff_right_of_imp fun h => BitVec.lt_of_getLsbD h]

theorem support_subset {n : Nat} (v : BitVec n) : support v ⊆ range n := filter_subset _ _

theorem support_injective {n : Nat} : Function.Injective (support : BitVec n → Finset ℕ) := fun a b h =>
  BitVec.eq_of_getLsbD_eq fun i _ => by rw [Bool.eq_iff_iff, ← mem_support, ← mem_support, h]

/-- Every set of positions is a word's support, as there are no more sets than words. -/
theorem image_support (n : Nat) : (univ : Finset (BitVec n)).image support = (range n).powerset := by
  refine eq_of_subset_of_card_le (image_subset_iff.2 fun v _ => mem_powerset.2 (support_subset v)) ?_
  rw [card_image_of_injective _ support_injective, card_powerset, card_range, card_univ, ← Nat.card_eq_fintype_card,
    card_bitVec]

/-- Words differ in the bits that one of them has and the other has not. -/
theorem popcount_xor {n : Nat} (a b : BitVec n) :
    popcount (a ^^^ b) = #(support a \ support b) + #(support b \ support a) := by
  have hsupport : support (a ^^^ b) = support a \ support b ∪ support b \ support a := by
    ext i
    simp only [mem_support, BitVec.getLsbD_xor, mem_union, mem_sdiff]
    cases a.getLsbD i <;> cases b.getLsbD i <;> decide
  rw [← card_support, hsupport, card_union_of_disjoint disjoint_sdiff_sdiff]

/-- A word's bits are those that another word lacks and those that they share. -/
theorem card_sdiff_add_popcount_and {n : Nat} (a b : BitVec n) :
    #(support a \ support b) + popcount (a &&& b) = popcount a := by
  have hsupport : support (a &&& b) = support a ∩ support b := by
    ext i
    simp only [mem_support, BitVec.getLsbD_and, mem_inter, Bool.and_eq_true]
  rw [← card_support, ← card_support, hsupport, card_sdiff_add_card_inter]

/-- The sets that lack i elements of S and have j others: i elements are chosen in S and j outside. -/
theorem card_filter_powerset {U S : Finset ℕ} (hS : S ⊆ U) (i j : ℕ) :
    #{t ∈ U.powerset | #(S \ t) = i ∧ #(t \ S) = j} = (#S).choose i * (#(U \ S)).choose j := by
  have hlost {x y : Finset ℕ} (hx : x ⊆ S) (hy : y ⊆ U \ S) : S \ (S \ x ∪ y) = x := by grind
  have hgained {x y : Finset ℕ} (hy : y ⊆ U \ S) : (S \ x ∪ y) \ S = y := by grind
  rw [← card_powersetCard, ← card_powersetCard, ← card_product]
  refine card_nbij' (fun t => (S \ t, t \ S)) (fun p => S \ p.1 ∪ p.2) (fun t ht => ?_) (fun p hp => ?_)
    (fun t _ => ?_) (fun p hp => ?_)
  · simp only [coe_filter, mem_powerset, Set.mem_ofPred_eq] at ht
    simp only [coe_product, Set.mem_prod, mem_coe, mem_powersetCard]
    exact ⟨⟨sdiff_subset, ht.2.1⟩, sdiff_subset_sdiff ht.1 subset_rfl, ht.2.2⟩
  · simp only [coe_product, Set.mem_prod, mem_coe, mem_powersetCard] at hp
    obtain ⟨⟨hx, hi⟩, hy, hj⟩ := hp
    simp only [coe_filter, mem_powerset, Set.mem_ofPred_eq, hlost hx hy, hgained hy]
    exact ⟨union_subset (sdiff_subset.trans hS) (hy.trans sdiff_subset), hi, hj⟩
  · show S \ (S \ t) ∪ t \ S = t
    rw [sdiff_sdiff_self_left, inter_comm, union_comm, sdiff_union_inter]
  · simp only [coe_product, Set.mem_prod, mem_coe, mem_powersetCard] at hp
    exact Prod.ext (hlost hp.1.1 hp.2.1) (hgained hp.2.1)

/-- The words that lack i bits of c and have j others. -/
theorem card_flips {n : Nat} (c : BitVec n) (i j : ℕ) :
    #{r : BitVec n | #(support c \ support r) = i ∧ #(support r \ support c) = j} =
      (popcount c).choose i * (n - popcount c).choose j := by
  have himage := card_filter_powerset (support_subset c) i j
  rw [← image_support, filter_image, card_image_of_injective _ support_injective] at himage
  rw [himage, card_sdiff_of_subset (support_subset c), card_range, card_support]

/-- The numbers of bits lost and gained, at most three together, that lead from weight w to weight k. -/
def flipCounts (w k : ℕ) : Finset (ℕ × ℕ) := {p ∈ range 4 ×ˢ range 4 | p.1 + p.2 ≤ 3 ∧ k + p.1 = w + p.2}

/-- How many words of weight k lie within 3 positions of a word of weight w. -/
def nearCount (w k : ℕ) : ℕ := ∑ p ∈ flipCounts w k, w.choose p.1 * (23 - w).choose p.2

theorem nearCount_of_lt : ∀ k < 21, ∀ w < 24, k + 3 < w → nearCount w k = 0 := by decide +kernel

theorem nearCount_pos : ∀ k < 21, 0 < nearCount (k + 3) k := by decide +kernel

theorem card_near (c : Codeword23) (k : ℕ) :
    #{r : Codeword23 | popcount r = k ∧ popcount (r ^^^ c) ≤ 3} = nearCount (popcount c) k := by
  have hflips (r : Codeword23) : popcount r = k ∧ popcount (r ^^^ c) ≤ 3 ↔
      (#(support c \ support r), #(support r \ support c)) ∈ flipCounts (popcount c) k := by
    have hr := card_sdiff_add_popcount_and r c
    have hc := card_sdiff_add_popcount_and c r
    rw [BitVec.and_comm] at hc
    rw [popcount_xor, flipCounts, mem_filter, mem_product, mem_range, mem_range]
    omega
  simp only [hflips, ← sum_card_fiberwise_eq_card_filter, Prod.ext_iff, card_flips, nearCount]

/-! ## The weights of the valid codewords (R151) -/

/-- The number of valid codewords of weight w. -/
def codewordCount (w : ℕ) : ℕ := #{c : Codeword23 | validCodeword c = true ∧ popcount c = w}

/-- Each word of weight k lies within 3 positions of one valid codeword, whose weights are from 0 to 23. -/
theorem sum_codewordCount_mul_nearCount (k : ℕ) :
    ∑ w ∈ range 24, codewordCount w * nearCount w k = Nat.choose 23 k := by
  have hball {c : Codeword23} (hc : validCodeword c = true) (r : Codeword23) :
      enc (decode23 r).data = c ↔ popcount (r ^^^ c) ≤ 3 := by
    rw [(validCodeword_iff_eq_enc c).1 hc, enc_injective.eq_iff, decode23_data_eq_iff]
  calc ∑ w ∈ range 24, codewordCount w * nearCount w k
    _ = ∑ c : Codeword23 with validCodeword c = true, nearCount (popcount c) k := by
      rw [← sum_fiberwise_of_maps_to' (t := range 24)
        (fun c _ => mem_range.2 (Nat.lt_succ_of_le (popcount_le_width c))) (nearCount · k)]
      simp only [codewordCount, sum_const, smul_eq_mul, filter_filter]
    _ = ∑ c : Codeword23 with validCodeword c = true, #{r : Codeword23 | popcount r = k ∧ enc (decode23 r).data = c} :=
      sum_congr rfl fun c hc => by simp only [← card_near, hball (mem_filter.1 hc).2]
    _ = #{r : Codeword23 | popcount r = k} := by
      rw [card_eq_sum_card_fiberwise (f := fun r => enc (decode23 r).data)
        (t := {c : Codeword23 | validCodeword c = true}) fun r _ => by simp]
      simp only [filter_filter]
    _ = Nat.choose 23 k := by rw [← card_popcount_eq, Nat.card_eq_fintype_card, Fintype.card_subtype]

/-- R151's numbers. -/
def weightTable : ℕ → ℕ
  | 0 => 1 | 7 => 253 | 8 => 506 | 11 => 1288 | 12 => 1288 | 15 => 506 | 16 => 253 | 23 => 1 | _ => 0

/-- R151's numbers solve the same equations. -/
theorem sum_weightTable_mul_nearCount :
    ∀ k < 21, ∑ w ∈ range 24, weightTable w * nearCount w k = Nat.choose 23 k := by decide +kernel

theorem eq_zero_of_validCodeword {c : Codeword23} (hc : validCodeword c = true) (hlight : popcount c ≤ 3) : c = 0 := by
  have hentry := romRead_eq_iff.2 ⟨hlight, (validCodeword_iff c).1 hc⟩
  rw [← hentry, romRead_eq_iff]
  exact ⟨by decide, syndrome_zero⟩

theorem codewordCount_of_le {w : ℕ} (hw : w ≤ 3) : codewordCount w = weightTable w := by
  have hzero (c : Codeword23) : validCodeword c = true ∧ popcount c = w ↔ c = 0 ∧ w = 0 := by
    constructor
    · rintro ⟨hc, rfl⟩
      have hc0 := eq_zero_of_validCodeword hc hw
      exact ⟨hc0, (popcount_eq_zero c).2 hc0⟩
    · rintro ⟨rfl, rfl⟩
      decide
  simp only [codewordCount, hzero]
  interval_cases w <;> simp [weightTable, filter_eq']

/-- The equation of weight k fixes the number of codewords of weight k + 3 when those of smaller weight are known. -/
theorem codewordCount_eq {w : ℕ} (hw : w < 24) : codewordCount w = weightTable w := by
  induction w using Nat.strong_induction_on with
  | _ w ih =>
    obtain hlight | hheavy := Nat.le_total w 3
    · exact codewordCount_of_le hlight
    obtain ⟨k, rfl⟩ := Nat.exists_eq_add_of_le' hheavy
    have hk : k < 21 := by omega
    have hsum := (sum_codewordCount_mul_nearCount k).trans (sum_weightTable_mul_nearCount k hk).symm
    rw [← add_sum_erase _ _ (mem_range.2 hw), ← add_sum_erase (range 24) _ (mem_range.2 hw)] at hsum
    have hrest : ∀ w ∈ (range 24).erase (k + 3), codewordCount w * nearCount w k = weightTable w * nearCount w k := by
      intro w hmem
      obtain ⟨hne, hw'⟩ := mem_erase.1 hmem
      obtain hlt | hgt := Nat.lt_or_gt_of_ne hne
      · rw [ih w hlt (mem_range.1 hw')]
      · rw [nearCount_of_lt k hk w (mem_range.1 hw') hgt, Nat.mul_zero, Nat.mul_zero]
    rw [sum_congr rfl hrest] at hsum
    exact Nat.eq_of_mul_eq_mul_right (nearCount_pos k hk) (Nat.add_right_cancel hsum)

theorem card_validCodeword_popcount {w : ℕ} (hw : w < 24) :
    Nat.card { c : Codeword23 // validCodeword c = true ∧ popcount c = w } = weightTable w := by
  rw [Nat.card_eq_fintype_card, Fintype.card_subtype, ← codewordCount_eq hw]
  rfl

/-- The table has no entry from 1 to 6. -/
theorem seven_le_popcount {c : Codeword23} (hc : validCodeword c = true) (hne : c ≠ 0) : 7 ≤ popcount c := by
  by_contra! hlt
  have hpos : 0 < popcount c := Nat.pos_of_ne_zero fun h => hne ((popcount_eq_zero c).1 h)
  have htable : ∀ w < 7, 0 < w → weightTable w = 0 := by decide
  have hnone : codewordCount (popcount c) = 0 := (codewordCount_eq (by omega)).trans (htable _ hlt hpos)
  exact filter_eq_empty_iff.1 (card_eq_zero.1 hnone) (mem_univ c) ⟨hc, rfl⟩

/-- Settles O52: the code being perfect fixes how many codewords have each weight. -/
theorem codewordWeights : Obligations.CodewordWeights := by
  refine ⟨card_validCodeword, ?_, fun c => seven_le_popcount, 0x000C75, by decide, by decide⟩
  have htable : ∀ p ∈ [(0, 1), (7, 253), (8, 506), (11, 1288), (12, 1288), (15, 506), (16, 253), (23, 1)],
    p.1 < 24 ∧ weightTable p.1 = p.2 := by decide
  intro p hp
  rw [card_validCodeword_popcount (htable p hp).1, (htable p hp).2]

end Sys2Proof.Machine

namespace Sys2Proof.Machine

open Finset

/-! ## Four and more errors (R153) -/

theorem syndrome_xor_of_validCodeword {c : Codeword23} (hc : validCodeword c = true) (e : Codeword23) :
    syndrome (c ^^^ e) = syndrome e := by
  rw [syndrome_xor, (validCodeword_iff c).1 hc]
  exact BitVec.zero_xor

theorem data_ne_of_four_le_popcount {c e : Codeword23} (hc : validCodeword c = true) (he : 4 ≤ popcount e) :
    (decode23 (c ^^^ e)).data ≠ dataField c := by
  have hword : (c ^^^ e) ^^^ enc (dataField c) = e := by
    rw [← (validCodeword_iff_eq_enc c).1 hc, ← eq_xor_iff, BitVec.xor_comm]
  rw [Ne, decode23_data_eq_iff, hword]
  omega

/-- The error and the mask have the same syndrome, so they differ by a valid codeword. -/
theorem validCodeword_error_xor_mask {c : Codeword23} (hc : validCodeword c = true) (e : Codeword23) :
    validCodeword (e ^^^ (decode23 (c ^^^ e)).mask) = true := by
  rw [validCodeword_xor_iff, decode23_mask, syndrome_romRead, syndrome_xor_of_validCodeword hc]

/-- Settles O54: for weight 4 the codeword `e XOR mask` has weight at least 7, which its 4 and at most 3 bits reach
only when none is shared. -/
theorem fourErrorsAreMiscorrected : Obligations.FourErrorsAreMiscorrected := by
  refine ⟨fun c e hc he => ⟨data_ne_of_four_le_popcount hc he, popcount_decode23_mask_le _, ?_⟩, fun c e hc he => ?_⟩
  · rw [respond_encode, execResponse_err]
  have hvalid := validCodeword_error_xor_mask hc e
  have hlight := popcount_decode23_mask_le (c ^^^ e)
  generalize (decode23 (c ^^^ e)).mask = mask at hvalid hlight ⊢
  have hne : e ^^^ mask ≠ 0 := fun h => by
    rw [BitVec.xor_eq_zero_iff.1 h] at he
    omega
  have hseven := seven_le_popcount hvalid hne
  have hxor := popcount_xor e mask
  have herror := card_sdiff_add_popcount_and e mask
  have hmask := card_sdiff_add_popcount_and mask e
  rw [BitVec.and_comm] at herror
  exact ⟨by omega, (popcount_eq_zero _).1 (by omega), hvalid, by omega⟩

/-! ## The source's scenarios (R155) -/

theorem support_one_shiftLeft {n i : Nat} (hi : i < n) : support (1#n <<< i) = {i} := by
  ext j
  simp [mem_support, ← BitVec.twoPow_eq, BitVec.getLsbD_twoPow, hi, eq_comm]

theorem popcount_two_bits {n i j : Nat} (hi : i < n) (hj : j < n) (hij : i ≠ j) :
    popcount ((1#n <<< i) ^^^ (1#n <<< j)) = 2 := by
  rw [popcount_xor, support_one_shiftLeft hi, support_one_shiftLeft hj,
    sdiff_eq_self_of_disjoint (disjoint_singleton.2 hij), sdiff_eq_self_of_disjoint (disjoint_singleton.2 hij.symm),
    card_singleton, card_singleton]

/-- A light word is decoded to data 0 and itself: it is three errors or fewer on the zero word. -/
theorem decode23_of_popcount_le {e : Codeword23} (he : popcount e ≤ 3) : decode23 e = ⟨0, e⟩ := by
  have h := decode23_enc_xor 0 he
  rwa [enc_zero, BitVec.zero_xor] at h

/-- Settles O55: the patterns on the zero word are light, and the parity bit is dropped. -/
theorem sourceScenarios : Obligations.SourceScenarios := by
  refine ⟨decode23_of_popcount_le (by decide), decode23_of_popcount_le (by decide), ?_, fun i j hij hj => ?_,
    fun c _ => congrArg DecodedResult.data (decode24_shiftLeft_or_one c)⟩
  · rw [decode23_of_popcount_le (by decide)]
    decide
  · have hweight := popcount_two_bits (hij.trans hj) hj hij.ne
    exact ⟨decode23_of_popcount_le (by omega), hweight⟩

end Sys2Proof.Machine

namespace Sys2Proof

/-- Decoding fails for the reserved bits and for nothing else (R74, R161). -/
theorem decode_eq_error_iff_reservedSet (req : Req) :
    decode req = .error .inputRange ↔ ReservedSet (reqOp req) (reqArg req) := by
  constructor
  · intro h
    obtain ⟨i, -, hd⟩ | ⟨hr, -⟩ := decode_cases req
    · rw [hd] at h; cases h
    · exact hr
  · intro hr
    exact reqOp_append_reqArg req ▸ decode_of_reservedSet hr

/-- The reserved bits as the bits of `arg` that R72 lists. -/
theorem reservedSet_iff (op : BitVec 2) (arg : BitVec 24) :
    ReservedSet op arg ↔
      ((op = 0b00 ∨ op = 0b10) ∧ arg.getLsbD 23 = true) ∨ (op = 0b01 ∧ arg.extractLsb' 11 13 ≠ 0) := by
  rw [ReservedSet, codewordReservedSet, addrReservedSet, bne_iff_ne]

end Sys2Proof

namespace Sys2Proof.Machine

/-! ## The one exception (R161) -/

theorem respond_err_iff (req : Req) : (respond req).err = true ↔ decode req = .error .inputRange := by
  obtain ⟨i, -, hd, hresp⟩ | ⟨-, hd, hresp⟩ := respond_cases req
  · simp [hd, hresp, execResponse_err]
  · exact iff_of_true (hresp ▸ rfl) hd

/-- Settles O8: `respond` agrees with the decoder on every request, which fails for the reserved bits alone. -/
theorem stepAnswersRespond : Obligations.StepAnswersRespond := by
  refine ⟨fun s req rest hp => step_of_pending hp, fun req => ?_, respond_err_iff, fun req herr => ?_⟩
  · rw [decode_eq_error_iff_reservedSet, reservedSet_iff]
  · rw [respond_of_decode_error ((respond_err_iff req).1 herr)]
    rfl

/-! ## Integers on a port (R164) -/

theorem presentOnPort_eq_some_iff {w : Nat} {n : Int} {v : BitVec w} :
    presentOnPort w n = some v ↔ (0 ≤ n ∧ n < 2 ^ w) ∧ BitVec.ofNat w n.toNat = v := by
  rw [presentOnPort, Option.ite_none_right_eq_some, Option.some_inj]

theorem presentOnPort_eq_none_iff (w : Nat) (n : Int) : presentOnPort w n = none ↔ n < 0 ∨ 2 ^ w ≤ n := by
  rw [presentOnPort, ite_eq_right_iff, imp_iff_not (Option.some_ne_none _), not_and_or, not_le, not_lt]

/-- The value of a word is an integer that fits, and the port carries that word. -/
theorem presentOnPort_toNat {w : Nat} (v : BitVec w) : presentOnPort w v.toNat = some v := by
  have hlt : (v.toNat : Int) < 2 ^ w := by exact_mod_cast v.isLt
  refine presentOnPort_eq_some_iff.2 ⟨⟨Int.natCast_nonneg _, hlt⟩, ?_⟩
  rw [Int.toNat_natCast, BitVec.ofNat_toNat, BitVec.setWidth_eq]

/-- What a port carries has the integer's value: the reduction modulo `2 ^ w` in `BitVec.ofNat` does nothing. -/
theorem toNat_of_presentOnPort {w : Nat} {n : Int} {v : BitVec w} (h : presentOnPort w n = some v) :
    (v.toNat : Int) = n := by
  obtain ⟨⟨hnonneg, hlt⟩, rfl⟩ := presentOnPort_eq_some_iff.1 h
  lift n to ℕ using hnonneg
  rw [Int.toNat_natCast, BitVec.toNat_ofNat, Nat.mod_eq_of_lt (by exact_mod_cast hlt)]

/-- Settles O23: the integers that fit are exactly the values of the words of that width. -/
theorem portRefusesWideIntegers : Obligations.PortRefusesWideIntegers :=
  ⟨fun _ _ v => ⟨toNat_of_presentOnPort, fun h => h ▸ presentOnPort_toNat v⟩, presentOnPort_eq_none_iff⟩

end Sys2Proof.Machine

namespace Sys2Proof.Machine

/-! ## Stepping and reset (R163, R180, R182, R189, R192) -/

/-- Settles O9: a step keeps the state when nothing waits, and answers the first waiting request otherwise. -/
theorem everyStepAnswers : Obligations.EveryStepAnswers := by
  refine fun s => ⟨⟨_, step_eq_next_stepState s⟩, fun t ht => ?_⟩
  cases hp : s.pending with
  | nil =>
    rw [step_of_pending_nil hp] at ht
    cases ht
    simp [hp]
  | cons req rest =>
    rw [step_of_pending hp] at ht
    cases ht
    simp

/-- Settles O7: with no request to take, the step idles. -/
theorem stepWithoutRequestIdles : Obligations.StepWithoutRequestIdles := fun _ => step_of_pending_nil

/-- The first step after a first request answers it (R182). -/
theorem step_reset_withRequest (req : Req) :
    step { State.reset with pending := [req] } = .next { pending := [], responses := [respond req] } :=
  step_of_pending rfl

theorem State.reset_inv : State.reset.Inv := by
  simp [State.Inv]

/-- Settles O19: the first step answers a ROM request with `romRead`, which is the listing's word at every address. -/
theorem resetState : Obligations.ResetState := by
  refine ⟨State.reset_pending, State.reset_responses, State.reset_inv, fun addr => ?_, step_reset_withRequest⟩
  refine ⟨romRead addr, getElem?_romWords addr, ?_⟩
  rw [step_reset_withRequest, respond_encode]
  rfl

end Sys2Proof.Machine
